-- ==== Sys2Proof/Word.lean ====
section
/-! DEFINITION. The word types of the Raster+Audio engine (00_scope.md rule R8). -/

namespace Sys2Proof

/-- A byte of system memory, and the payload of a link frame. -/
abbrev Byte := BitVec 8

/-- A sample: "A sample is 16 bits" (R8). -/
abbrev Half := BitVec 16

/-- A host-visible register, and a system-memory address (R8). -/
abbrev Word := BitVec 32

/-- A raster descriptor D[63:0] (R101). -/
abbrev Descriptor := BitVec 64

/-- A colour value: three 4-bit nibbles (R8, R95). -/
abbrev Colour := BitVec 12

/-- A link frame F = (tag, payload), F[8] the tag (R8, R130). -/
abbrev Frame := BitVec 9

/-- A point (x, y) = (row, column), in mathematical integers (R9, R16). -/
abbrev Point := Int × Int

end Sys2Proof
end

