-- ==== Sys2Proof/Config.lean ====
section
/-! DEFINITION. The parameters of 00_scope.md rule R7, the platform the block stands in, and the free values.
A parameter with a value is a definition; an OPEN one is a field of `Platform`, which State carries as data that no
step changes (log 3). The `opaque` constants are the free values: they have no body, so no proof can see them. -/

namespace Sys2Proof

/-- ROW_MAX (R7): largest valid row (x) coordinate. -/
def Config.rowMax : Int := 131

/-- COL_MAX (R7): largest valid column (y) coordinate. -/
def Config.colMax : Int := 131

/-- PANEL_H = ROW_MAX + 1 (R7). -/
def Config.panelH : Int := Config.rowMax + 1

/-- PANEL_W = COL_MAX + 1 (R7). -/
def Config.panelW : Int := Config.colMax + 1

/-- RECT_OVERSHOOT (R7, R156): extra pairs of a filled rectangle. -/
def Config.rectOvershoot : Nat := 130

/-- The smallest valid character code (R186). -/
def Config.glyphCodeMin : Nat := 0x20

/-- GLYPH_CODE_MAX (R7, R186). -/
def Config.glyphCodeMax : Nat := 0x7F

/-- SMALL_PITCH (R7, R189). -/
def Config.smallPitch : Int := 6

/-- OTHER_PITCH (R7, R189). -/
def Config.otherPitch : Int := 8

/-- SAMPLE_SHIFT (R7, R210). -/
def Config.sampleShift : Nat := 6

/-- SAMPLE_RATE_HZ (R7, R203). -/
def Config.sampleRateHz : Nat := 8000

/-- DAC_CODE_WIDTH (R7, R213). -/
def Config.dacCodeWidth : Nat := 10

/-- WHITE = 0xFFF (R95, R163). -/
def Config.white : Colour := 0xFFF#12

/-- BLACK = 0x000 (R95). -/
def Config.black : Colour := 0x000#12

/-- The default of DAC_CODE_LO (R7: "OPEN, default 6"; R213). -/
def Config.dacCodeLoDefault : Nat := 6

/-- The reset value of GFX_OPC, bits 23..0 (R28): RAMWR 0x5C, CASET 0x15, PASET 0x75. -/
def Config.opcReset : BitVec 24 := 0x5C1575#24

/-- What stands at a range of system-memory addresses (R82): plain memory, or a device register whose reads may have
side effects. An address in no region is not backed by the platform (R236). -/
inductive RegionKind where
  | plain
  | device
  deriving DecidableEq, Repr

/-- A range of `size` bytes of system memory from `base` on (R82, R83; log 5). -/
structure Region where
  base : Nat
  size : Nat
  kind : RegionKind
  deriving DecidableEq, Repr

/-- What the platform fixes: the OPEN parameters of R7 and the address map (R82, R83). `basePage` is BASE / 256, so that
BASE is 256-byte aligned by construction (R20). A platform that does not say otherwise has DAC_CODE_LO at its default. -/
structure Platform where
  basePage : BitVec 24
  pclkHz : Nat
  dacCodeLo : Nat := Config.dacCodeLoDefault
  rstPulseMin : Nat
  rstRecovery : Nat
  regions : List Region
  deriving DecidableEq, Repr, Inhabited

/-- Whose step is next (R14): the host, the raster sequencer, the audio timer (one PCLK cycle), the audio service unit,
or the platform's reset input (R260). System memory and the display controller only receive, so they have no turn. -/
inductive Turn where
  | host
  | raster
  | timer
  | service
  | reset
  deriving DecidableEq, Repr, Inhabited

/-- FREE VALUE: the platform of the machine right after reset (R7 OPEN parameters; log 3). -/
opaque Config.platform : Platform

/-- FREE VALUE: whose turn the n-th step is where State's schedule does not say ("Any enabled step of any agent may be
taken next", R14; log 1). -/
opaque Config.arbiter : Nat → Turn

/-- FREE VALUE: the word the link receives during a frame (R50, R134, 93 entry I21), as a function of the step counter alone
(DESIGN CHOICE, log 10). -/
opaque Config.rxWord : Nat → BitVec 9

/-- FREE VALUE: the analog output before the first ARM after reset (R214, 93 entry I16; log 18), as a function of the step
counter and DAC_DATA alone (DESIGN CHOICE, log 18). -/
opaque Config.analogBeforeArm : Nat → Word → BitVec 10

/-- FREE VALUE: the converter's code where the field DAC_DATA[DAC_CODE_LO + 9 : DAC_CODE_LO] runs past bit 31 (R7 gives
DAC_CODE_LO no range; log 31). -/
opaque Config.codePastBit31 : Nat → Word → BitVec Config.dacCodeWidth

/-- FREE VALUE: a pixel of the controller's memory that nothing has written ("everything else is unknown at start", R90), as a
function of its coordinates alone (DESIGN CHOICE, log 17). -/
opaque Config.unknownPixel : Int → Int → Colour

/-- FREE VALUE: the controller's memory after a write through a window the block never programs (R94 "any effect on M,
including none", 93 entry I18; log 17), as a function of the pixels received before it, the window's four bounds, the write
pointer, the colour and the memory before it. -/
opaque Config.badWindowPixels : Nat → List Byte → Point → Colour → List (Point × Colour) → List (Point × Colour)

end Sys2Proof
end

