-- ==== Sys2Proof/Syntax.lean ====
section
/-! DEFINITION. The instructions: one constructor per row of spec/opcode_table.json. The first seventeen are raster
commands, launched by the host write of GFX_CMD_HI (R103, R108); the last four are audio control operations, executed by
the host write of AUD_CTRL (R110). -/

namespace Sys2Proof

/-- A command of the block with its operands, in the order of R111's syntax. Coordinates, radius and character code are
unsigned integers (R102), 8 bits wide in a well-formed instruction; a payload byte and a colour are bits; `size` is the
2-bit SIZE field, 3 included (R107: a used field with an illegal value, refused at execution). Fields an opcode ignores
are no operands (R104, R107). -/
inductive Instr where
  /-- NOP (R141). -/
  | nop
  /-- LCMD byte (R139). -/
  | lcmd (byte : Byte)
  /-- LDAT byte (R140). -/
  | ldat (byte : Byte)
  /-- PIXEL x, y, color (R151). -/
  | pixel (x y : Nat) (color : Colour)
  /-- LINE x0, y0, x1, y1, color (R153). -/
  | line (x0 y0 x1 y1 : Nat) (color : Colour)
  /-- RECT x0, y0, x1, y1, color, FILL = 0 (R158). -/
  | rect (x0 y0 x1 y1 : Nat) (color : Colour)
  /-- RECTF x0, y0, x1, y1, color, FILL = 1 (R157). -/
  | rectf (x0 y0 x1 y1 : Nat) (color : Colour)
  /-- CIRCLE x0, y0, radius, color (R161). -/
  | circle (x0 y0 radius : Nat) (color : Colour)
  /-- CHAR x, y, code, size, fg, bg (R188). -/
  | char (x y code : Nat) (size : BitVec 2) (fg bg : Colour)
  /-- STRING x, y, size, fg, bg, the string at GFX_STRPTR (R193). -/
  | string (x y : Nat) (size : BitVec 2) (fg bg : Colour)
  /-- CLEAR (R165). -/
  | clear
  /-- OP = 0xA, reserved and illegal (R106). -/
  | reservedA
  /-- OP = 0xB, reserved and illegal (R106). -/
  | reservedB
  /-- OP = 0xC, reserved and illegal (R106). -/
  | reservedC
  /-- OP = 0xD, reserved and illegal (R106). -/
  | reservedD
  /-- OP = 0xE, reserved and illegal (R106). -/
  | reservedE
  /-- OP = 0xF, reserved and illegal (R106). -/
  | reservedF
  /-- AUD_CTRL with OP = 0: no operation (R110). -/
  | audNop
  /-- ARM (R206). -/
  | arm
  /-- PLAY (R207). -/
  | play
  /-- STOP (R208). -/
  | stop
  deriving DecidableEq, Repr

end Sys2Proof
end

