-- ==== Sys2Proof/WellFormed.lean ====
section
/-! DEFINITION. Which instructions an encoding exists for: every coordinate, radius and character code fits its 8-bit
field (R101, R102). Range checks against the panel are no part of this: they are made at execution (R109, R232). -/

namespace Sys2Proof

/-- An operand fits an 8-bit descriptor field (R102: "Coordinates range over 0..255 as encoded"). -/
def fits8 (n : Nat) : Bool := decide (n < 256)

/-- The instruction has an encoding (R101). -/
def Instr.wellFormed : Instr → Bool
  | .nop => true
  | .lcmd _ => true
  | .ldat _ => true
  | .pixel x y _ => fits8 x && fits8 y
  | .line x0 y0 x1 y1 _ => fits8 x0 && fits8 y0 && fits8 x1 && fits8 y1
  | .rect x0 y0 x1 y1 _ => fits8 x0 && fits8 y0 && fits8 x1 && fits8 y1
  | .rectf x0 y0 x1 y1 _ => fits8 x0 && fits8 y0 && fits8 x1 && fits8 y1
  | .circle x0 y0 r _ => fits8 x0 && fits8 y0 && fits8 r
  | .char x y code _ _ _ => fits8 x && fits8 y && fits8 code
  | .string x y _ _ _ => fits8 x && fits8 y
  | .clear => true
  | .reservedA => true
  | .reservedB => true
  | .reservedC => true
  | .reservedD => true
  | .reservedE => true
  | .reservedF => true
  | .audNop => true
  | .arm => true
  | .play => true
  | .stop => true

end Sys2Proof
end

