-- ==== Sys2Proof/Decode.lean ====
section
/-! DEFINITION. Decoding and encoding (30_encoding.md). Decoding of a descriptor and of an audio control word is total
(R109, R110); the only refusal is of a byte list too short to hold one, `DecodeError.truncated`. The encoder follows
the decoder, from the same tables (R101, R112). -/

namespace Sys2Proof

/-- Why a byte list is no instruction: it ends before the format's last byte. Safe: no instruction runs. -/
inductive DecodeError where
  | truncated
  deriving DecidableEq, Repr

/-- Where an instruction is written (R100): a raster descriptor to GFX_CMD_LO and GFX_CMD_HI, an audio control word to
AUD_CTRL. The port is the format: no bit of a word tells the two apart. -/
inductive Port where
  | raster
  | audio
  deriving DecidableEq, Repr

/-- An encoded instruction: the words as the registers take them. -/
inductive Encoded where
  | raster (d : Descriptor)
  | audio (w : Word)
  deriving DecidableEq, Repr

/-! ## The descriptor's fields (R101) -/

/-- A = D[7:0]. -/
def fieldA (d : Descriptor) : Byte := d.extractLsb' 0 8
/-- B = D[15:8]. -/
def fieldB (d : Descriptor) : Byte := d.extractLsb' 8 8
/-- C = D[23:16]. -/
def fieldC (d : Descriptor) : Byte := d.extractLsb' 16 8
/-- E = D[31:24]. -/
def fieldE (d : Descriptor) : Byte := d.extractLsb' 24 8
/-- COLOR = D[43:32]. -/
def fieldColor (d : Descriptor) : Colour := d.extractLsb' 32 12
/-- BG = D[55:44]. -/
def fieldBg (d : Descriptor) : Colour := d.extractLsb' 44 12
/-- FILL = D[56]. -/
def fieldFill (d : Descriptor) : Bool := d.getLsbD 56
/-- SIZE = D[58:57]. -/
def fieldSize (d : Descriptor) : BitVec 2 := d.extractLsb' 57 2
/-- OP = D[63:60]. -/
def fieldOp (d : Descriptor) : BitVec 4 := d.extractLsb' 60 4

/-- The command a descriptor selects: OP, and FILL when OP = 0x5, and nothing else (R103, R105, R109). -/
def decodeDescriptor (d : Descriptor) : Instr :=
  match (fieldOp d).toNat with
  | 0x0 => .nop
  | 0x1 => .lcmd (fieldA d)
  | 0x2 => .ldat (fieldA d)
  | 0x3 => .pixel (fieldA d).toNat (fieldB d).toNat (fieldColor d)
  | 0x4 => .line (fieldA d).toNat (fieldB d).toNat (fieldC d).toNat (fieldE d).toNat (fieldColor d)
  | 0x5 =>
    if fieldFill d then
      .rectf (fieldA d).toNat (fieldB d).toNat (fieldC d).toNat (fieldE d).toNat (fieldColor d)
    else
      .rect (fieldA d).toNat (fieldB d).toNat (fieldC d).toNat (fieldE d).toNat (fieldColor d)
  | 0x6 => .circle (fieldA d).toNat (fieldB d).toNat (fieldC d).toNat (fieldColor d)
  | 0x7 => .char (fieldA d).toNat (fieldB d).toNat (fieldC d).toNat (fieldSize d) (fieldColor d) (fieldBg d)
  | 0x8 => .string (fieldA d).toNat (fieldB d).toNat (fieldSize d) (fieldColor d) (fieldBg d)
  | 0x9 => .clear
  | 0xA => .reservedA
  | 0xB => .reservedB
  | 0xC => .reservedC
  | 0xD => .reservedD
  | 0xE => .reservedE
  | _ => .reservedF

/-- The operation an audio control word selects: OP = w[1:0], bits 31..2 ignored (R32, R110). -/
def decodeControl (w : Word) : Instr :=
  match (w.extractLsb' 0 2).toNat with
  | 0 => .audNop
  | 1 => .arm
  | 2 => .play
  | _ => .stop

/-- Decoding of an encoded instruction, total (R109, R110). -/
def decode : Encoded → Instr
  | .raster d => decodeDescriptor d
  | .audio w => decodeControl w

/-- A 32-bit word from its four bytes, bit 0 in the byte at the lowest address (R74). -/
def wordOfBytes (b0 b1 b2 b3 : Byte) : Word := b3 ++ b2 ++ b1 ++ b0

/-- The four bytes of a word, the lowest address first (R74). -/
def bytesOfWord (w : Word) : List Byte :=
  [w.extractLsb' 0 8, w.extractLsb' 8 8, w.extractLsb' 16 8, w.extractLsb' 24 8]

/-- The instruction at the head of a byte list as it lies in the register window, with the rest of the list: GFX_CMD_LO
at the lower offset, then GFX_CMD_HI (R21, R74, R101; log 21). -/
def decodeBytes : Port → List Byte → Except DecodeError (Instr × List Byte)
  | .raster, b0 :: b1 :: b2 :: b3 :: b4 :: b5 :: b6 :: b7 :: rest =>
    .ok (decodeDescriptor (wordOfBytes b4 b5 b6 b7 ++ wordOfBytes b0 b1 b2 b3), rest)
  | .audio, b0 :: b1 :: b2 :: b3 :: rest => .ok (decodeControl (wordOfBytes b0 b1 b2 b3), rest)
  | _, _ => .error .truncated

/-- The port of a table row with `nbits` bits: the audio control word is the 32-bit format, the descriptor the 64-bit
one (spec/opcode_table.json; log 21). -/
def portOfBits (nbits : Nat) : Option Port :=
  if nbits ≤ 32 then some .audio else if nbits ≤ 64 then some .raster else none

/-- The bytes of table word `w` as the register window holds them at that port. -/
def tableBytes : Port → Nat → List Byte
  | .audio, w => bytesOfWord (BitVec.ofNat 32 w)
  | .raster, w => bytesOfWord (BitVec.ofNat 32 w) ++ bytesOfWord (BitVec.ofNat 32 (w / 2 ^ 32))

/-- The instruction this decoder reads from the bits of an opcode-table row. -/
def decodeTableWord (nbits w : Nat) : Option Instr :=
  match portOfBits nbits with
  | none => none
  | some p =>
    match decodeBytes p (tableBytes p w) with
    | .ok (i, _) => some i
    | .error _ => none

/-! ## The encoder (R112) -/

/-- A descriptor from its fields; the reserved bit D[59] is 0 (R101, R112). -/
def mkDescriptor (op : BitVec 4) (size : BitVec 2) (fill : Bool) (bg color : Colour) (e c b a : Byte) : Descriptor :=
  op ++ 0#1 ++ size ++ BitVec.ofBool fill ++ bg ++ color ++ e ++ c ++ b ++ a

/-- An 8-bit field from an unsigned operand (R102). -/
def field8 (n : Nat) : Byte := BitVec.ofNat 8 n

/-- The words of an instruction; "Unused fields are omitted and encode as 0" (R111, R112). -/
def encode : Instr → Encoded
  | .nop => .raster (mkDescriptor 0x0 0 false 0 0 0 0 0 0)
  | .lcmd byte => .raster (mkDescriptor 0x1 0 false 0 0 0 0 0 byte)
  | .ldat byte => .raster (mkDescriptor 0x2 0 false 0 0 0 0 0 byte)
  | .pixel x y color => .raster (mkDescriptor 0x3 0 false 0 color 0 0 (field8 y) (field8 x))
  | .line x0 y0 x1 y1 color =>
    .raster (mkDescriptor 0x4 0 false 0 color (field8 y1) (field8 x1) (field8 y0) (field8 x0))
  | .rect x0 y0 x1 y1 color =>
    .raster (mkDescriptor 0x5 0 false 0 color (field8 y1) (field8 x1) (field8 y0) (field8 x0))
  | .rectf x0 y0 x1 y1 color =>
    .raster (mkDescriptor 0x5 0 true 0 color (field8 y1) (field8 x1) (field8 y0) (field8 x0))
  | .circle x0 y0 r color => .raster (mkDescriptor 0x6 0 false 0 color 0 (field8 r) (field8 y0) (field8 x0))
  | .char x y code size fg bg =>
    .raster (mkDescriptor 0x7 size false bg fg 0 (field8 code) (field8 y) (field8 x))
  | .string x y size fg bg => .raster (mkDescriptor 0x8 size false bg fg 0 0 (field8 y) (field8 x))
  | .clear => .raster (mkDescriptor 0x9 0 false 0 0 0 0 0 0)
  | .reservedA => .raster (mkDescriptor 0xA 0 false 0 0 0 0 0 0)
  | .reservedB => .raster (mkDescriptor 0xB 0 false 0 0 0 0 0 0)
  | .reservedC => .raster (mkDescriptor 0xC 0 false 0 0 0 0 0 0)
  | .reservedD => .raster (mkDescriptor 0xD 0 false 0 0 0 0 0 0)
  | .reservedE => .raster (mkDescriptor 0xE 0 false 0 0 0 0 0 0)
  | .reservedF => .raster (mkDescriptor 0xF 0 false 0 0 0 0 0 0)
  | .audNop => .audio 0
  | .arm => .audio 1
  | .play => .audio 2
  | .stop => .audio 3

/-- The value of GFX_CMD_LO that carries a descriptor (R101). -/
def descriptorLo (d : Descriptor) : Word := d.extractLsb' 0 32

/-- The value of GFX_CMD_HI that carries a descriptor (R101). -/
def descriptorHi (d : Descriptor) : Word := d.extractLsb' 32 32

end Sys2Proof
end

