-- ==== Sys2Proof/Machine/State.lean ====
section
/-! DEFINITION. The state of the machine as plain data, its reset value, and the reasons a step can stop. Everything
10_state.md and 70_reset_and_hazards.md rule R263 name is a field of `State`, or computed from one where the spec says two
names are the same thing (BUSY and the raster phase, R49; timer running and STATE = Streaming, R51). -/

namespace Sys2Proof.Machine

/-! ## Why a step stops -/

/-- Why the machine stops with a fault. -/
inductive Fault where
  /-- Raised by a host memory access (MEM8, MEM16, a word access outside the window) to an address the platform does not
  back. The spec gives the platform's bus no behaviour there. Safe: the run stops. -/
  | hostUnbacked (addr : Word)
  deriving DecidableEq, Repr

/-- Why the model gives a step no meaning. -/
inductive Refusal where
  /-- Raised by `exec` for an instruction that has no meaning yet. Safe: nothing runs. -/
  | notModelled (mnemonic : String)
  /-- Raised by a host access to the register window that is not an aligned 32-bit access (R78, 93 entry I13). Safe. -/
  | nonWordAccess
  /-- Raised by an engine read of a device register, or of the block's own window ("a model refuses it", R82, 93 entry
  I14). Safe. -/
  | deviceRead (addr : Word)
  /-- Raised by a host memory access aimed at another device, which the spec does not describe (R82, R83). Safe. -/
  | deviceAccess (addr : Word)
  deriving DecidableEq, Repr

/-! ## Error codes and the audio state -/

/-- The raster error codes 1 to 5 (R230). -/
inductive GfxError where
  | busy
  | illegal
  | range
  | size
  | glyph
  deriving DecidableEq, Repr

/-- The audio error codes 1 to 4 (R230). -/
inductive AudError where
  | notArmed
  | busy
  | zeroCount
  | align
  deriving DecidableEq, Repr

/-- The states of the audio engine (R33, R200). -/
inductive AudState where
  | idle
  | armed
  | streaming
  deriving DecidableEq, Repr

/-! ## The raster sequencer's position and working variables (R49) -/

/-- The endpoints of a line body (R152, R158). -/
structure Segment where
  x0 : Int
  y0 : Int
  x1 : Int
  y1 : Int
  deriving DecidableEq, Repr

/-- The working variables of the line loop (R152): which axis drives, the current coordinates on the driving and on the
other axis, the error term, the step on the other axis, the two distances, and how many points are left to draw. -/
structure LineVars where
  yDrives : Bool
  drive : Int
  other : Int
  err : Int
  step : Int
  dDrive : Int
  dOther : Int
  left : Nat
  deriving DecidableEq, Repr

/-- The working variables of the circle loop (R160): the centre, the decision variable, its two accumulators and the
loop variables u and v. -/
structure CircleVars where
  x0 : Int
  y0 : Int
  f : Int
  ddFx : Int
  ddFy : Int
  u : Int
  v : Int
  deriving DecidableEq, Repr

/-- The arguments of the glyph being drawn (R187), and the string index when STRING draws it (R193). -/
structure GlyphVars where
  x : Int
  y : Int
  code : Nat
  size : BitVec 2
  fg : Colour
  bg : Colour
  index : Option Nat
  deriving DecidableEq, Repr

/-- A glyph table's header (R181). -/
structure GlyphHeader where
  cols : Nat
  rows : Nat
  stride : Nat
  deriving DecidableEq, Repr

/-- What is left of a running command's body once the frames already decided on are out (R49). The first ten
constructors are bodies not yet begun, with the operands latched at launch; the others are positions inside one. -/
inductive Ctl where
  /-- LCMD not yet begun (R139). -/
  | lcmd (byte : Byte)
  /-- LDAT not yet begun (R140). -/
  | ldat (byte : Byte)
  /-- PIXEL not yet begun (R151). -/
  | pixel (x y : Nat) (color : Colour)
  /-- LINE not yet begun (R153). -/
  | line (x0 y0 x1 y1 : Nat) (color : Colour)
  /-- RECT not yet begun (R158). -/
  | rect (x0 y0 x1 y1 : Nat) (color : Colour)
  /-- RECTF not yet begun (R157). -/
  | rectf (x0 y0 x1 y1 : Nat) (color : Colour)
  /-- CIRCLE not yet begun (R161). -/
  | circle (x0 y0 radius : Nat) (color : Colour)
  /-- CHAR not yet begun (R188). -/
  | char (x y code : Nat) (size : BitVec 2) (fg bg : Colour)
  /-- STRING not yet begun (R193). -/
  | string (x y : Nat) (size : BitVec 2) (fg bg : Colour)
  /-- CLEAR not yet begun (R165). -/
  | clear
  /-- In a line loop, with the segments still to draw after it (R153, R158). -/
  | lineLoop (color : Colour) (vars : LineVars) (rest : List Segment)
  /-- Streaming pairs, with the pair counter (R157, R165). -/
  | fillLoop (color : Colour) (left : Nat)
  /-- In the circle loop, with the points of this iteration still to draw (R160). -/
  | circleLoop (color : Colour) (vars : CircleVars) (points : List Point)
  /-- STRING has read the character `g.code` at index `g.index` (R193). -/
  | stringChar (g : GlyphVars)
  /-- The header's cols is read, rows is next (R182). -/
  | headerRows (g : GlyphVars) (cols : Nat)
  /-- cols and rows are read, stride is next (R182). -/
  | headerStride (g : GlyphVars) (cols rows : Nat)
  /-- The header is read; its checks and the window are next (R187). -/
  | headerDone (g : GlyphVars) (h : GlyphHeader)
  /-- Bitmap row `row` is next, or the glyph's end (R187). -/
  | glyphRow (g : GlyphVars) (h : GlyphHeader) (row : Nat)
  /-- The byte of bitmap row `row` is read; its pairs are next (R184, R187). -/
  | glyphBits (g : GlyphVars) (h : GlyphHeader) (row : Nat) (bits : Byte)
  /-- The body is over; the completion step is next (R14, R108). -/
  | finish
  deriving DecidableEq, Repr

/-- The raster phase (R49): Idle, or Running with the frames of the current group still to emit, in order, and the rest
of the body. GFX_STATUS.BUSY is 1 exactly when Running. -/
inductive Seq where
  | idle
  | running (out : List Frame) (ctl : Ctl)
  deriving DecidableEq, Repr

/-! ## The link and the host -/

/-- The frame in flight and the number of its bits already shifted out (R50). -/
structure Flight where
  frame : Frame
  shifted : Nat
  deriving DecidableEq, Repr

/-- A step of the host (R14, R113). Register accesses name a byte offset in the window (R20). -/
inductive HostOp where
  /-- WR: a 32-bit write of the register at a window offset. -/
  | wr (off : BitVec 8) (value : Word)
  /-- RD: a 32-bit read of the register at a window offset. -/
  | rd (off : BitVec 8)
  /-- WAIT: repeat RD until (read & mask) = value. -/
  | wait (off : BitVec 8) (mask value : Word)
  /-- MEM8: byte writes of system memory at addr, addr + 1, ... -/
  | mem8 (addr : Word) (bytes : List Byte)
  /-- MEM16: little-endian halfword writes of system memory at addr, addr + 2, ... -/
  | mem16 (addr : Word) (halves : List Half)
  /-- A host read of one byte of system memory (R84). -/
  | memRd (addr : Word)
  /-- A 32-bit write at a bus address: the window's register where the address lies in it (R20, R70). -/
  | busWr (addr value : Word)
  /-- A 32-bit read at a bus address (R20, R70). -/
  | busRd (addr : Word)
  /-- An access of another width at a window offset (R78). -/
  | narrow (off : BitVec 8)
  deriving DecidableEq, Repr

/-- What a host read returned (R113: "value shown in the trace"). -/
inductive HostRead where
  | register (off : BitVec 8) (value : Word)
  | memory (addr : Word) (value : Byte)
  deriving DecidableEq, Repr

/-- System memory as (address, byte) pairs in canonical form (R70, R84; log 4). -/
abbrev Memory := List Host.Cell

/-! ## The state -/

/-- The state of the block, of system memory, of what a test bench observes (R96), and of who moves next (R14). -/
structure State where
  /-- GFX_CMD_LO (R22). -/
  cmdLo : Word
  /-- GFX_CMD_HI (R23). -/
  cmdHi : Word
  /-- GFX_STATUS.ERR and ERRCODE (R24, R231): the first raster error since the record was last cleared (log 23). -/
  gfxErr : Option GfxError
  /-- GFX_STRPTR (R26). -/
  strPtr : Word
  /-- GFX_FONT0, the SMALL table (R27). -/
  font0 : Word
  /-- GFX_FONT1, the MEDIUM table (R27). -/
  font1 : Word
  /-- GFX_FONT2, the LARGE table (R27). -/
  font2 : Word
  /-- GFX_OPC, bits 23..0 (R28). -/
  gfxOpc : BitVec 24
  /-- LINK_CTRL.RST_N (R29). -/
  rstN : Bool
  /-- LINK_CTRL.CLKDIV (R29). -/
  clkDiv : Byte
  /-- LINK_STATUS.FBUSY (R30). -/
  fBusy : Bool
  /-- LINK_STATUS.CS_N (R30). -/
  csN : Bool
  /-- The frame in flight, if any (R50). -/
  inFlight : Option Flight
  /-- The link's receive word, if one is held (R50, R134; log 10). -/
  rxWord : Option Frame
  /-- The descriptor latched at the last accepted launch (R49, R108). -/
  latched : Descriptor
  /-- The raster sequencer's phase, position and working variables (R49). -/
  seq : Seq
  /-- AUD_STATUS.STATE (R33). -/
  audState : AudState
  /-- AUD_STATUS.DONE (R33). -/
  done : Bool
  /-- AUD_STATUS.ERR and ERRCODE (R33, R231; log 23). -/
  audErr : Option AudError
  /-- AUD_STATUS.DACEN (R33, R214). -/
  dacEn : Bool
  /-- AUD_PTR (R35). -/
  audPtr : Word
  /-- AUD_CNT (R36). -/
  audCnt : Word
  /-- TMR_PR (R37). -/
  tmrPr : Word
  /-- TMR_MR (R38). -/
  tmrMr : Word
  /-- TMR_TC (R39). -/
  tmrTc : Word
  /-- TMR_PC (R40). -/
  tmrPc : Word
  /-- TMR_IR.MR0 (R41). -/
  mr0 : Bool
  /-- DAC_DATA (R42). -/
  dacData : Word
  /-- The timer's sub-cycle phase relative to PCLK (R51, R263; log 22). -/
  timerPhase : Nat
  /-- System memory (R70). -/
  mem : Memory
  /-- The frame history, oldest first (R96, R136). -/
  frames : List Frame
  /-- The DAC_DATA history, oldest first (R96; log 19). -/
  dacHist : List Word
  /-- The addresses the raster sequencer has read, oldest first (log 19). -/
  gfxReads : List Word
  /-- The addresses the audio service unit has read, oldest first (log 19). -/
  audReads : List Word
  /-- What the host has read, oldest first (R113; log 19). -/
  hostReads : List HostRead
  /-- The platform (R7, R82, R83; log 3). -/
  platform : Platform
  /-- The host's remaining steps (R113; log 2). -/
  host : List HostOp
  /-- The turns still scheduled (R14; log 1). -/
  sched : List Turn
  /-- The number of steps taken, to which the free values of Config are applied (log 24). -/
  turn : Nat
  deriving DecidableEq, Repr

/-- The state right after reset (R21, R260, R263): the raster sequencer Idle, no frame in flight, the timer stopped, the
histories empty. The platform is the free value `Config.platform` (log 3); memory lists nothing (log 4); no host step and
no turn is scheduled (log 1, log 2). -/
def State.reset : State where
  cmdLo := 0
  cmdHi := 0
  gfxErr := none
  strPtr := 0
  font0 := 0
  font1 := 0
  font2 := 0
  gfxOpc := Config.opcReset
  rstN := true
  clkDiv := 0xFF
  fBusy := false
  csN := true
  inFlight := none
  rxWord := none
  latched := 0
  seq := .idle
  audState := .idle
  done := false
  audErr := none
  dacEn := false
  audPtr := 0
  audCnt := 0
  tmrPr := 0
  tmrMr := 0
  tmrTc := 0
  tmrPc := 0
  mr0 := false
  dacData := 0
  timerPhase := 0
  mem := []
  frames := []
  dacHist := []
  gfxReads := []
  audReads := []
  hostReads := []
  platform := Config.platform
  host := []
  sched := []
  turn := 0

end Sys2Proof.Machine
end

