-- ==== Sys2Proof/Machine/Flags.lean ====
section
/-! DEFINITION. The flags (R48): the status words the host reads, the two error records, and the shared operations
`raise GfxError` and `raise AudError` (R13, R231). -/

namespace Sys2Proof.Machine

/-- GFX_STATUS.BUSY: the raster phase is Running (R24, R49). -/
def gfxBusy (s : State) : Bool :=
  match s.seq with
  | .idle => false
  | .running _ _ => true

/-- The timer runs exactly while Streaming (R51, R201). -/
def timerRunning (s : State) : Bool := s.audState == .streaming

/-- ERRCODE of a raster error (R230). -/
def gfxErrorCode : GfxError → BitVec 4
  | .busy => 1
  | .illegal => 2
  | .range => 3
  | .size => 4
  | .glyph => 5

/-- ERRCODE of an audio error (R230). -/
def audErrorCode : AudError → BitVec 4
  | .notArmed => 1
  | .busy => 2
  | .zeroCount => 3
  | .align => 4

/-- GFX_STATUS.ERRCODE: "0 while ERR = 0" (R24). -/
def gfxErrCode (s : State) : BitVec 4 :=
  match s.gfxErr with
  | none => 0
  | some e => gfxErrorCode e

/-- AUD_STATUS.ERRCODE: "0 while ERR = 0" (R33). -/
def audErrCode (s : State) : BitVec 4 :=
  match s.audErr with
  | none => 0
  | some e => audErrorCode e

/-- AUD_STATUS.STATE: 0 Idle, 1 Armed, 2 Streaming (R33). -/
def audStateCode : AudState → BitVec 2
  | .idle => 0
  | .armed => 1
  | .streaming => 2

/-- GFX_STATUS as the host reads it: ERRCODE at [7:4], ERR at [1], BUSY at [0] (R24). -/
def gfxStatus (s : State) : Word :=
  0#24 ++ gfxErrCode s ++ 0#2 ++ BitVec.ofBool s.gfxErr.isSome ++ BitVec.ofBool (gfxBusy s)

/-- LINK_STATUS: CS_N at [1], FBUSY at [0] (R30). -/
def linkStatus (s : State) : Word := 0#30 ++ BitVec.ofBool s.csN ++ BitVec.ofBool s.fBusy

/-- AUD_STATUS: DACEN at [8], ERRCODE at [7:4], ERR at [3], DONE at [2], STATE at [1:0] (R33). -/
def audStatus (s : State) : Word :=
  0#23 ++ BitVec.ofBool s.dacEn ++ audErrCode s ++ BitVec.ofBool s.audErr.isSome ++ BitVec.ofBool s.done ++
    audStateCode s.audState

/-- TMR_IR: MR0 at [0] (R41). -/
def tmrIr (s : State) : Word := 0#31 ++ BitVec.ofBool s.mr0

/-- LINK_CTRL: CLKDIV at [15:8], RST_N at [0] (R29). -/
def linkCtrl (s : State) : Word := 0#16 ++ s.clkDiv ++ 0#7 ++ BitVec.ofBool s.rstN

/-- RecordGfx(code): the first error since ERR was last cleared is kept (R231). -/
def recordGfx (e : GfxError) (s : State) : State :=
  match s.gfxErr with
  | none => { s with gfxErr := some e }
  | some _ => s

/-- RecordAud(code) (R231). -/
def recordAud (e : AudError) (s : State) : State :=
  match s.audErr with
  | none => { s with audErr := some e }
  | some _ => s

/-- `raise GfxError(code)`: the command ends at once, BUSY <- 0, the code is recorded (R13, R234). -/
def raiseGfx (e : GfxError) (s : State) : State := recordGfx e { s with seq := .idle }

/-- `raise AudError(code)`: nothing changes but the error record (R13, R234). -/
def raiseAud (e : AudError) (s : State) : State := recordAud e s

end Sys2Proof.Machine
end

