-- ==== Sys2Proof/Machine/Ops.lean ====
section
/-! DEFINITION. The shared operations: system memory and the platform's map, the link and its emission primitives, the
launch of a raster command, and the timer's and the DAC's registers. -/

namespace Sys2Proof.Machine

/-! ## System memory (20_memory.md) -/

/-- What a byte nothing has written reads as (R84 gives no initial content; DESIGN CHOICE, unsafe, log 4). -/
def Memory.unlisted : Byte := 0#8

/-- One byte of memory. -/
def Memory.get : Memory → Nat → Byte
  | [], _ => Memory.unlisted
  | (a, b) :: m, x => if x = a then b else Memory.get m x

/-- Write one byte, keeping the canonical form. -/
def Memory.set : Memory → Nat → Byte → Memory
  | [], x, v => if v = Memory.unlisted then [] else [(x, v)]
  | (a, b) :: m, x, v =>
    if x < a then
      if v = Memory.unlisted then (a, b) :: m else (x, v) :: (a, b) :: m
    else if x = a then
      if v = Memory.unlisted then m else (x, v) :: m
    else (a, b) :: Memory.set m x v

/-- Addresses from `lo` on, strictly rising and below 2^32, no entry equal to what an unlisted address reads as. -/
def Memory.wfFrom : Nat → Memory → Bool
  | _, [] => true
  | lo, (a, b) :: m => decide (lo ≤ a) && decide (a < 2 ^ 32) && (b != Memory.unlisted) && Memory.wfFrom (a + 1) m

/-- The canonical form of a memory. -/
def Memory.wf (m : Memory) : Bool := Memory.wfFrom 0 m

/-- What stands at a system-memory address (R82, R83; log 5). -/
inductive AddrKind where
  | plain
  | device
  | window
  | unbacked
  deriving DecidableEq, Repr

/-- The region covers the address. -/
def regionHas (r : Region) (a : Nat) : Bool := decide (r.base ≤ a) && decide (a < r.base + r.size)

/-- The kind of the first region that covers the address. -/
def regionKindAt : List Region → Nat → Option RegionKind
  | [], _ => none
  | r :: rs, a => if regionHas r a then some r.kind else regionKindAt rs a

/-- The address lies in the block's own window BASE .. BASE+0xFF (R20). -/
def inWindow (p : Platform) (a : Word) : Bool := a.extractLsb' 8 24 == p.basePage

/-- What stands at an address of this platform. -/
def addrKind (p : Platform) (a : Word) : AddrKind :=
  if inWindow p a then .window
  else
    match regionKindAt p.regions a.toNat with
    | some .plain => .plain
    | some .device => .device
    | none => .unbacked

/-- The bus address of a window offset: BASE + offset (R20). -/
def windowAddr (p : Platform) (off : BitVec 8) : Word := p.basePage ++ off

/-- One byte of system memory as it is stored. -/
def byteAt (s : State) (a : Word) : Byte := s.mem.get a.toNat

/-- s with one byte of system memory replaced. -/
def withByte (s : State) (a : Word) (b : Byte) : State := { s with mem := s.mem.set a.toNat b }

/-- What an engine's read does (R11, R82, R236): it returns a value, it never completes, or the model refuses it. -/
inductive EngineRead (α : Type) where
  | value (v : α)
  | stuck
  | device (addr : Word)
  deriving DecidableEq, Repr

/-- MemRead(addr, 1) (R11, R77, R82). -/
def memRead1 (s : State) (a : Word) : EngineRead Byte :=
  match addrKind s.platform a with
  | .plain => .value (byteAt s a)
  | .unbacked => .stuck
  | .device => .device a
  | .window => .device a

/-- MemRead(addr, 2): the byte at a + 1 above the byte at a, one atomic read (R76). A read of which one byte is
backed and the other is not is stuck as a whole, and one with a byte in a device is refused (DESIGN CHOICE, log 5). -/
def memRead2 (s : State) (a : Word) : EngineRead Half :=
  match memRead1 s a, memRead1 s (a + 1) with
  | .value lo, .value hi => .value (hi ++ lo)
  | .device d, _ => .device d
  | _, .device d => .device d
  | _, _ => .stuck

/-! ## The link (40_link.md) -/

/-- The payload b[7:0] of an integer (R12). -/
def lowByte (n : Int) : Byte := BitVec.ofInt 8 n

/-- EmitCmd(b): tag 0 (R12, R136). -/
def cmdFrame (b : Byte) : Frame := 0#1 ++ b

/-- EmitData(b): tag 1 (R12, R136). -/
def dataFrame (b : Byte) : Frame := 1#1 ++ b

/-- GFX_OPC.PASET (R28). -/
def opcPaset (opc : BitVec 24) : Byte := opc.extractLsb' 0 8
/-- GFX_OPC.CASET (R28). -/
def opcCaset (opc : BitVec 24) : Byte := opc.extractLsb' 8 8
/-- GFX_OPC.RAMWR (R28). -/
def opcRamwr (opc : BitVec 24) : Byte := opc.extractLsb' 16 8

/-- Window(r0, r1, c0, c1): seven frames (R137). -/
def windowFrames (opc : BitVec 24) (r0 r1 c0 c1 : Int) : List Frame :=
  [cmdFrame (opcPaset opc), dataFrame (lowByte r0), dataFrame (lowByte r1),
   cmdFrame (opcCaset opc), dataFrame (lowByte c0), dataFrame (lowByte c1),
   cmdFrame (opcRamwr opc)]

/-- Pair(c0, c1): two colours as three data frames (R75, R138). -/
def pairFrames (c0 c1 : Colour) : List Frame :=
  [dataFrame (c0.extractLsb' 4 8),
   dataFrame (c0.extractLsb' 0 4 ++ c1.extractLsb' 8 4),
   dataFrame (c1.extractLsb' 0 8)]

/-- Pixel(x, y, c): a 1x1 window and one pair, ten frames (R150). -/
def pixelFrames (opc : BitVec 24) (p : Point) (c : Colour) : List Frame :=
  windowFrames opc p.1 p.1 p.2 p.2 ++ pairFrames c c

/-- The bit on the serial data line: F[8] first, down to F[0] (R130). -/
def lineBit (fl : Flight) : Bool := fl.frame.getLsbD (8 - fl.shifted)

/-- CS_N <- 0, FBUSY <- 1, the frame in flight (R131, R133). -/
def linkAssert (f : Frame) (s : State) : State :=
  { s with csN := false, fBusy := true, inFlight := some { frame := f, shifted := 0 } }

/-- n bits of the frame in flight go out (R130, R131). -/
def shiftOut : Nat → Flight → Flight
  | 0, fl => fl
  | n + 1, fl => shiftOut n { fl with shifted := fl.shifted + 1 }

/-- The 9 bits of the frame go out (R131). -/
def linkShift (s : State) : State := { s with inFlight := s.inFlight.map (shiftOut 9) }

/-- The full-duplex bus clocks in a word (R50; a free value, log 10). -/
def linkReceive (s : State) : State := { s with rxWord := some (Config.rxWord s.turn) }

/-- The received word is discarded (R134). -/
def linkDrain (s : State) : State := { s with rxWord := none }

/-- CS_N <- 1, FBUSY <- 0, nothing in flight, and the frame joins the history (R131, R133, R136). -/
def linkDeassert (f : Frame) (s : State) : State :=
  { s with csN := true, fBusy := false, inFlight := none, frames := s.frames ++ [f] }

/-- FrameOut(F), one atomic step: "The framing of rule R131 happens inside that step" (R136; log 9). -/
def frameOut (f : Frame) (s : State) : State :=
  linkDeassert f (linkDrain (linkReceive (linkShift (linkAssert f s))))

/-- The level of the display reset line (R135). -/
def displayResetLine (s : State) : Bool := s.rstN

/-- The serial bit clock in Hz, the exact quotient PCLK_HZ / (2 * (CLKDIV + 1)) (R29, R132). -/
def linkBitRate (s : State) : Rat := (s.platform.pclkHz : Rat) / ((2 * (s.clkDiv.toNat + 1) : Nat) : Rat)

/-- The least PCLK cycles a frame takes (R277). No step depends on it. -/
def frameMinCycles (s : State) : Nat := 18 * (s.clkDiv.toNat + 1)

/-! ## The raster sequencer -/

/-- The next action of a running body (R14): emit a group of frames and go on, read one byte and go on with it, complete,
or raise an error. It is computed at the step and never stored. -/
inductive Act where
  | emit (out : List Frame) (next : Ctl)
  | read (addr : Word) (next : Byte → Ctl)
  | finish
  | fail (e : GfxError)

/-- The launch of a command whose body is `body` (R108): D <- {GFX_CMD_HI, GFX_CMD_LO} is latched, BUSY <- 1, the body's
steps follow as later steps. A launch while BUSY = 1 is refused with error 1 (R31). The latched descriptor then stays until the
next launch, whatever the host writes to GFX_CMD_LO (DESIGN CHOICE, log 26). -/
def launch (body : Ctl) (s : State) : Host.Outcome State Fault Refusal :=
  if gfxBusy s then .next (recordGfx .busy s)
  else .next { s with latched := s.cmdHi ++ s.cmdLo, seq := .running [] body }

/-- The launch of NOP (R108, R141): the descriptor is latched, "nothing further; BUSY stays 0". -/
def launchNothing (s : State) : Host.Outcome State Fault Refusal :=
  if gfxBusy s then .next (recordGfx .busy s)
  else .next { s with latched := s.cmdHi ++ s.cmdLo }

/-- The launch of a reserved opcode (R106, R108): the descriptor is latched, `raise GfxError(2)`, BUSY stays 0. -/
def launchIllegal (s : State) : Host.Outcome State Fault Refusal :=
  if gfxBusy s then .next (recordGfx .busy s)
  else .next (raiseGfx .illegal { s with latched := s.cmdHi ++ s.cmdLo })

/-! ## The timer and the DAC (43_audio.md) -/

/-- TMR_TC <- 0; TMR_PC <- 0 (R206, R207, R208, R211). -/
def clearCounters (s : State) : State := { s with tmrTc := 0, tmrPc := 0 }

/-- TMR_TC <- 0; TMR_PC <- 0; TMR_IR.MR0 <- 0 (R206, R207, R208). -/
def clearTimer (s : State) : State := { clearCounters s with mr0 := false }

/-- DAC_DATA <- v, which joins the history (R42, R96; log 19). -/
def writeDac (v : Word) (s : State) : State := { s with dacData := v, dacHist := s.dacHist ++ [v] }

/-- zext32(sample) << SAMPLE_SHIFT (R210, R215). -/
def dacWord (sample : Half) : Word := (sample.setWidth 32) <<< Config.sampleShift

/-- The tick period in PCLK cycles (R201). -/
def tickPeriod (s : State) : Nat := (s.tmrPr.toNat + 1) * (s.tmrMr.toNat + 1)

/-- The sample rate in ticks per second, the exact quotient, if no tick is lost (R203). -/
def sampleRate (s : State) : Rat := (s.platform.pclkHz : Rat) / (tickPeriod s : Rat)

/-- TMR_PR and TMR_MR are chosen as R203 has the host choose them: (TMR_PR + 1) * (TMR_MR + 1) = PCLK_HZ / 8000. -/
def requiredRateSet (s : State) : Bool := tickPeriod s * Config.sampleRateHz == s.platform.pclkHz

/-- The converter's 10-bit code DAC_DATA[DAC_CODE_LO + 9 : DAC_CODE_LO] (R213); a free value where DAC_CODE_LO is above 22,
so that the field runs past bit 31 (DESIGN CHOICE, log 31). -/
def converterCode (s : State) : BitVec 10 :=
  if s.platform.dacCodeLo + Config.dacCodeWidth ≤ 32 then
    s.dacData.extractLsb' s.platform.dacCodeLo Config.dacCodeWidth
  else Config.codePastBit31 s.platform.dacCodeLo s.dacData

/-- The code the analog output shows: the converter's from ARM on, unspecified before (R214). That the unspecified value is a
function of the step counter and DAC_DATA alone is the model's (DESIGN CHOICE, log 18). -/
def analogCode (s : State) : BitVec 10 :=
  if s.dacEn then converterCode s else Config.analogBeforeArm s.turn s.dacData

end Sys2Proof.Machine
end

