-- ==== Sys2Proof/Machine/Audio.lean ====
section
/-! DEFINITION. The audio engine (43_audio.md): the control operations, the timer and the tick service. A control operation
"either performs its effect in full or raises an error and changes nothing else" (R205); there is one stream (R216). -/

namespace Sys2Proof.Machine

/-- AUD_CTRL with OP = 0: no operation (R110, R235). -/
def execAudNop (s : State) : Host.Outcome State Fault Refusal := .next s

/-- ARM (R206). -/
def execArm (s : State) : Host.Outcome State Fault Refusal :=
  if s.audState = .streaming then .next (raiseAud .busy s)
  else .next (clearTimer { s with audState := .armed, dacEn := true })

/-- PLAY: the checks in R207's order, then the stream starts. After a completing service AUD_CNT is 0 (R211), so a PLAY
with no new count records error 3 (R207, R233), although R240 says of that order that "the new stream starts" (DESIGN
CHOICE, log 28: the rule that defines the fact wins, as 90_conflicts.md C15 has it). -/
def execPlay (s : State) : Host.Outcome State Fault Refusal :=
  if s.audState = .idle then .next (raiseAud .notArmed s)
  else if s.audState = .streaming then .next (raiseAud .busy s)
  else if s.audCnt = 0 then .next (raiseAud .zeroCount s)
  else if s.audPtr.getLsbD 0 then .next (raiseAud .align s)
  else .next { clearTimer s with done := false, audState := .streaming }

/-- STOP (R208): from Streaming to Armed, a pending tick discarded; otherwise no effect. -/
def execStop (s : State) : Host.Outcome State Fault Refusal :=
  if s.audState = .streaming then .next (clearTimer { s with audState := .armed })
  else .next s

/-- Tick() (R202): MR0 <- 1; a tick while MR0 = 1 is lost. -/
def tick (s : State) : State := { s with mr0 := true }

/-- One PCLK cycle of the timer; the timer counts only while it runs (R201; log 12). -/
def timerCycle (s : State) : State :=
  if timerRunning s then
    if s.tmrPc = s.tmrPr then
      if s.tmrTc = s.tmrMr then tick { s with tmrPc := 0, tmrTc := 0 }
      else { s with tmrPc := 0, tmrTc := s.tmrTc + 1 }
    else { s with tmrPc := s.tmrPc + 1 }
  else s

/-- The timer's step. -/
def timerStep (s : State) : Host.Outcome State Fault Refusal := .next (timerCycle s)

/-- The tick service is enabled (R209). -/
def serviceEnabled (s : State) : Bool := s.mr0 && timerRunning s

/-- Complete() (R211). It leaves AUD_CNT = 0 for a PLAY that comes next (log 28). -/
def completeStream (s : State) : State :=
  { clearCounters { s with audState := .armed } with audPtr := 0, done := true }

/-- The tick service once its sample is read (R210). -/
def playSample (sample : Half) (s : State) : State :=
  let t := writeDac (dacWord sample)
    { s with mr0 := false, audReads := s.audReads ++ [s.audPtr] }
  let t := { t with audPtr := t.audPtr + 2, audCnt := t.audCnt - 1 }
  if t.audCnt = 0 then completeStream t else t

/-- The audio service unit's step (R209, R210). Not enabled, it does nothing; a read that is not backed leaves the
engine Streaming with MR0 = 1, "the step never happens" (R210, R236; log 6). -/
def serviceStep (s : State) : Host.Outcome State Fault Refusal :=
  if serviceEnabled s then
    match memRead2 s s.audPtr with
    | .value sample => .next (playSample sample s)
    | .stuck => .next s
    | .device a => .refused (.deviceRead a)
  else .next s

end Sys2Proof.Machine
end

