-- ==== Sys2Proof/Machine/Operands.lean ====
section
/-! DEFINITION. The operand forms of the raster commands: the range checks of R232, the bounding box (R155), the glyph
table's addressing and validity rules (42_glyph.md), and the string's address. -/

namespace Sys2Proof.Machine

/-- x <= ROW_MAX and y <= COL_MAX (R232). -/
def inPanel (x y : Int) : Bool := decide (x ≤ Config.rowMax) && decide (y ≤ Config.colMax)

/-- The check of LINE, RECT and RECTF (R232). -/
def endsInPanel (x0 y0 x1 y1 : Nat) : Bool := inPanel x0 y0 && inPanel x1 y1

/-- The check of CIRCLE: x0 >= r, y0 >= r, x0 + r <= ROW_MAX, y0 + r <= COL_MAX (R161, R232). -/
def circleInPanel (x0 y0 r : Nat) : Bool :=
  decide (r ≤ x0) && decide (r ≤ y0) && inPanel ((x0 : Int) + r) ((y0 : Int) + r)

/-- The bounding box of two corners (R155). -/
structure Box where
  xmin : Int
  xmax : Int
  ymin : Int
  ymax : Int
  deriving DecidableEq, Repr

/-- "min/max independently per axis" (R155). -/
def boundingBox (x0 y0 x1 y1 : Int) : Box where
  xmin := min x0 x1
  xmax := max x0 x1
  ymin := min y0 y1
  ymax := max y0 y1

/-- area (R155). -/
def boxArea (b : Box) : Nat := ((b.xmax - b.xmin + 1) * (b.ymax - b.ymin + 1)).toNat

/-- ceil(n / 2) (R9). -/
def ceilHalf (n : Nat) : Nat := (n + 1) / 2

/-- The pairs a filled rectangle streams: ceil(area / 2) + RECT_OVERSHOOT (R156). -/
def fillPairs (b : Box) : Nat := ceilHalf (boxArea b) + Config.rectOvershoot

/-- The pairs CLEAR streams: ceil(PANEL_W * PANEL_H / 2) (R163). -/
def clearPairs : Nat := ceilHalf (Config.panelW * Config.panelH).toNat

/-! ## Glyph tables (42_glyph.md) -/

/-- GFX_FONT[size] (R27, R190). SIZE = 3 selects none and is refused before any read (R187). -/
def fontBase (s : State) (size : BitVec 2) : Word :=
  match size.toNat with
  | 0 => s.font0
  | 1 => s.font1
  | _ => s.font2

/-- The address of the header's n-th byte, modulo 2^32 (R79, R182). -/
def headerAddr (base : Word) (n : Nat) : Word := base + BitVec.ofNat 32 n

/-- RowAddr(base, stride, code, k) = base + stride * (code - 0x1F) + stride - 1 - k, modulo 2^32 (R79, R183). -/
def rowAddr (base : Word) (stride code row : Nat) : Word :=
  base + BitVec.ofInt 32 ((stride : Int) * ((code : Int) - 0x1F) + stride - 1 - row)

/-- A header is valid: cols in 2, 4, 6, 8, rows >= 1, rows <= stride (R185). -/
def headerValid (h : GlyphHeader) : Bool :=
  (h.cols == 2 || h.cols == 4 || h.cols == 6 || h.cols == 8) && decide (1 ≤ h.rows) && decide (h.rows ≤ h.stride)

/-- A character code is valid: 0x20 <= code <= GLYPH_CODE_MAX (R186). -/
def codeValid (code : Nat) : Bool := decide (Config.glyphCodeMin ≤ code) && decide (code ≤ Config.glyphCodeMax)

/-- The glyph's window lies in the panel: x + rows - 1 <= ROW_MAX and y + cols - 1 <= COL_MAX (R187, R232). -/
def glyphInPanel (g : GlyphVars) (h : GlyphHeader) : Bool := inPanel (g.x + h.rows - 1) (g.y + h.cols - 1)

/-- pitch(size) (R189). -/
def pitch (size : BitVec 2) : Int := if size = 0 then Config.smallPitch else Config.otherPitch

/-- GFX_STRPTR + i, modulo 2^32 (R79, R193). -/
def stringAddr (s : State) (i : Nat) : Word := s.strPtr + BitVec.ofNat 32 i

/-- The colour of pixel j of a row byte: bit 7 - j, 1 foreground, 0 background (R184). -/
def rowPixel (g : GlyphVars) (bits : Byte) (j : Nat) : Colour := if bits.getLsbD (7 - j) then g.fg else g.bg

/-- The frames of the first `pairs` pairs of a row byte from pixel j on (R184). -/
def rowPairs (g : GlyphVars) (bits : Byte) : Nat → Nat → List Frame
  | 0, _ => []
  | n + 1, j => pairFrames (rowPixel g bits j) (rowPixel g bits (j + 1)) ++ rowPairs g bits n (j + 2)

/-- The frames of a bitmap row: cols / 2 pairs (R184). -/
def rowFrames (g : GlyphVars) (h : GlyphHeader) (bits : Byte) : List Frame := rowPairs g bits (h.cols / 2) 0

/-- Window(x, x + rows - 1, y, y + cols - 1) (R187). -/
def glyphWindow (opc : BitVec 24) (g : GlyphVars) (h : GlyphHeader) : List Frame :=
  windowFrames opc g.x (g.x + h.rows - 1) g.y (g.y + h.cols - 1)

end Sys2Proof.Machine
end

