-- ==== Sys2Proof/Machine/Glyph.lean ====
section
/-! DEFINITION. CHAR and STRING (42_glyph.md): the launch of each, DrawGlyph as the sequencer runs it, and the string
loop. Every check comes before the character's first frame, in R233's order. -/

namespace Sys2Proof.Machine

/-- CHAR: the launch (R108, R188). -/
def execChar (x y code : Nat) (size : BitVec 2) (fg bg : Colour) (s : State) : Host.Outcome State Fault Refusal :=
  launch (.char x y code size fg bg) s

/-- STRING: the launch (R108, R193). -/
def execString (x y : Nat) (size : BitVec 2) (fg bg : Colour) (s : State) : Host.Outcome State Fault Refusal :=
  launch (.string x y size fg bg) s

/-- DrawGlyph up to its first read: SIZE, then the code, then the header's cols (R187). "An invalid code reads no
memory". -/
def glyphBegin (g : GlyphVars) (s : State) : Act :=
  if g.size = 3 then .fail .size
  else if codeValid g.code then
    .read (headerAddr (fontBase s g.size) 0) fun b => .headerRows g b.toNat
  else .fail .glyph

/-- The header's rows, "in this order" (R182). -/
def headerRowsBody (g : GlyphVars) (cols : Nat) (s : State) : Act :=
  .read (headerAddr (fontBase s g.size) 1) fun b => .headerStride g cols b.toNat

/-- The header's stride (R182). -/
def headerStrideBody (g : GlyphVars) (cols rows : Nat) (s : State) : Act :=
  .read (headerAddr (fontBase s g.size) 2) fun b => .headerDone g { cols := cols, rows := rows, stride := b.toNat }

/-- The header check, the window check, and the window (R187). -/
def headerDoneBody (g : GlyphVars) (h : GlyphHeader) (s : State) : Act :=
  if headerValid h then
    if glyphInPanel g h then .emit (glyphWindow s.gfxOpc g h) (.glyphRow g h 0) else .fail .range
  else .fail .glyph

/-- What follows a drawn glyph: the end of CHAR; for STRING the advance of y, the overflow guard, and the next
character's read (R192, R193, R194). -/
def glyphEndBody (g : GlyphVars) (s : State) : Act :=
  match g.index with
  | none => .finish
  | some i =>
    if Config.colMax < g.y + pitch g.size then .finish
    else
      .read (stringAddr s (i + 1)) fun ch =>
        .stringChar { g with y := g.y + pitch g.size, code := ch.toNat, index := some (i + 1) }

/-- A bitmap row's read, "after the previous row's frames and before its own frames", or the glyph's end (R183, R187). -/
def glyphRowBody (g : GlyphVars) (h : GlyphHeader) (row : Nat) (s : State) : Act :=
  if row < h.rows then
    .read (rowAddr (fontBase s g.size) h.stride g.code row) fun b => .glyphBits g h row b
  else glyphEndBody g s

/-- A bitmap row's pairs (R184, R187). -/
def glyphBitsBody (g : GlyphVars) (h : GlyphHeader) (row : Nat) (bits : Byte) : Act :=
  .emit (rowFrames g h bits) (.glyphRow g h (row + 1))

/-- The body of CHAR (R188). -/
def charBody (x y code : Nat) (size : BitVec 2) (fg bg : Colour) (s : State) : Act :=
  if inPanel x y then
    glyphBegin { x := x, y := y, code := code, size := size, fg := fg, bg := bg, index := none } s
  else .fail .range

/-- The body of STRING up to its first read (R193). -/
def stringBody (x y : Nat) (size : BitVec 2) (fg bg : Colour) (s : State) : Act :=
  if inPanel x y then
    .read (stringAddr s 0) fun ch =>
      .stringChar { x := x, y := y, code := ch.toNat, size := size, fg := fg, bg := bg, index := some 0 }
  else .fail .range

/-- A character has been read: 0x00 ends the string, another is drawn (R191, R193). -/
def stringCharBody (g : GlyphVars) (s : State) : Act := if g.code = 0 then .finish else glyphBegin g s

end Sys2Proof.Machine
end

