-- ==== Sys2Proof/Machine/Link.lean ====
section
/-! DEFINITION. NOP, LCMD and LDAT (40_link.md): what launching each does, and the bodies of LCMD and LDAT. -/

namespace Sys2Proof.Machine

/-- NOP (R108, R141): latched, and nothing further. -/
def execNop (s : State) : Host.Outcome State Fault Refusal := launchNothing s

/-- LCMD: the launch (R108, R139). -/
def execLcmd (byte : Byte) (s : State) : Host.Outcome State Fault Refusal := launch (.lcmd byte) s

/-- LDAT: the launch (R108, R140). -/
def execLdat (byte : Byte) (s : State) : Host.Outcome State Fault Refusal := launch (.ldat byte) s

/-- The body of LCMD: EmitCmd(A) (R139). -/
def lcmdBody (byte : Byte) : Act := .emit [cmdFrame byte] .finish

/-- The body of LDAT: EmitData(A) (R140). -/
def ldatBody (byte : Byte) : Act := .emit [dataFrame byte] .finish

end Sys2Proof.Machine
end

