-- ==== Sys2Proof/Machine/Raster.lean ====
section
/-! DEFINITION. PIXEL, LINE, RECT, RECTF, CIRCLE and CLEAR (41_raster.md): the launch of each, and its body as the raster
sequencer runs it. Every range check comes before the body's first frame (R232). -/

namespace Sys2Proof.Machine

/-! ## PIXEL -/

/-- PIXEL: the launch (R108, R151). -/
def execPixel (x y : Nat) (color : Colour) (s : State) : Host.Outcome State Fault Refusal :=
  launch (.pixel x y color) s

/-- The body of PIXEL (R151). -/
def pixelBody (x y : Nat) (color : Colour) (s : State) : Act :=
  if inPanel x y then .emit (pixelFrames s.gfxOpc (x, y) color) .finish else .fail .range

/-! ## LINE -/

/-- The start of the line loop: the driving axis, the normalised endpoints, the initial error (R152). -/
def lineInit (g : Segment) : LineVars :=
  let dx := |g.x1 - g.x0|
  let dy := |g.y1 - g.y0|
  if dy ≤ dx then
    let (x0, y0, y1) := if g.x1 < g.x0 then (g.x1, g.y1, g.y0) else (g.x0, g.y0, g.y1)
    { yDrives := false, drive := x0, other := y0, err := dx / 2, step := if y0 ≤ y1 then 1 else -1,
      dDrive := dx, dOther := dy, left := dx.toNat + 1 }
  else
    let (y0, x0, x1) := if g.y1 < g.y0 then (g.y1, g.x1, g.x0) else (g.y0, g.x0, g.x1)
    { yDrives := true, drive := y0, other := x0, err := dy / 2, step := if x0 ≤ x1 then 1 else -1,
      dDrive := dy, dOther := dx, left := dy.toNat + 1 }

/-- The point the loop draws now (R152). -/
def linePoint (v : LineVars) : Point := if v.yDrives then (v.other, v.drive) else (v.drive, v.other)

/-- One round of the loop: err <- err - dOther; if err < 0 then step the other axis and err <- err + dDrive (R152). -/
def lineNext (v : LineVars) : LineVars :=
  let err := v.err - v.dOther
  if err < 0 then
    { v with drive := v.drive + 1, other := v.other + v.step, err := err + v.dDrive, left := v.left - 1 }
  else
    { v with drive := v.drive + 1, err := err, left := v.left - 1 }

/-- Draw the loop's current point, then go on with the loop (R153). -/
def lineEmit (color : Colour) (v : LineVars) (rest : List Segment) (s : State) : Act :=
  .emit (pixelFrames s.gfxOpc (linePoint v) color) (.lineLoop color (lineNext v) rest)

/-- The loop: the next point, the next segment, or the end (R153, R158). -/
def lineLoopBody (color : Colour) (v : LineVars) (rest : List Segment) (s : State) : Act :=
  if v.left = 0 then
    match rest with
    | [] => .finish
    | g :: gs => lineEmit color (lineInit g) gs s
  else lineEmit color v rest s

/-- LINE: the launch (R108, R153). -/
def execLine (x0 y0 x1 y1 : Nat) (color : Colour) (s : State) : Host.Outcome State Fault Refusal :=
  launch (.line x0 y0 x1 y1 color) s

/-- The body of LINE (R153). -/
def lineBody (x0 y0 x1 y1 : Nat) (color : Colour) (s : State) : Act :=
  if endsInPanel x0 y0 x1 y1 then
    lineEmit color (lineInit { x0 := x0, y0 := y0, x1 := x1, y1 := y1 }) [] s
  else .fail .range

/-! ## RECT and RECTF -/

/-- The last three of RECT's four segments, in R158's order; the first is (x0, y0)-(x1, y0). -/
def rectRest (x0 y0 x1 y1 : Int) : List Segment :=
  [{ x0 := x0, y0 := y1, x1 := x1, y1 := y1 },
   { x0 := x0, y0 := y0, x1 := x0, y1 := y1 },
   { x0 := x1, y0 := y0, x1 := x1, y1 := y1 }]

/-- RECT: the launch (R108, R158). -/
def execRect (x0 y0 x1 y1 : Nat) (color : Colour) (s : State) : Host.Outcome State Fault Refusal :=
  launch (.rect x0 y0 x1 y1 color) s

/-- The body of RECT: one check, then four line bodies (R158). -/
def rectBody (x0 y0 x1 y1 : Nat) (color : Colour) (s : State) : Act :=
  if endsInPanel x0 y0 x1 y1 then
    lineEmit color (lineInit { x0 := x0, y0 := y0, x1 := x1, y1 := y0 }) (rectRest x0 y0 x1 y1) s
  else .fail .range

/-- The streaming of pairs (R157, R165). -/
def fillLoopBody (color : Colour) (left : Nat) : Act :=
  match left with
  | 0 => .finish
  | n + 1 => .emit (pairFrames color color) (.fillLoop color n)

/-- RECTF: the launch (R108, R157). -/
def execRectf (x0 y0 x1 y1 : Nat) (color : Colour) (s : State) : Host.Outcome State Fault Refusal :=
  launch (.rectf x0 y0 x1 y1 color) s

/-- The body of RECTF: the window over the bounding box, then the pairs (R157). -/
def rectfBody (x0 y0 x1 y1 : Nat) (color : Colour) (s : State) : Act :=
  if endsInPanel x0 y0 x1 y1 then
    let b := boundingBox x0 y0 x1 y1
    .emit (windowFrames s.gfxOpc b.xmin b.xmax b.ymin b.ymax) (.fillLoop color (fillPairs b))
  else .fail .range

/-! ## CIRCLE -/

/-- The initial working variables (R160). -/
def circleInit (x0 y0 r : Int) : CircleVars :=
  { x0 := x0, y0 := y0, f := 1 - r, ddFx := 1, ddFy := -2 * r, u := 0, v := r }

/-- The four extreme points, in R160's order. -/
def circleExtremes (x0 y0 r : Int) : List Point := [(x0, y0 + r), (x0, y0 - r), (x0 + r, y0), (x0 - r, y0)]

/-- One round of the loop's updates (R160). -/
def circleNext (c : CircleVars) : CircleVars :=
  let c1 :=
    if 0 ≤ c.f then { c with v := c.v - 1, ddFy := c.ddFy + 2, f := c.f + (c.ddFy + 2) } else c
  { c1 with u := c1.u + 1, ddFx := c1.ddFx + 2, f := c1.f + (c1.ddFx + 2) }

/-- The eight symmetric points of an iteration, in R160's order. -/
def circleOctants (c : CircleVars) : List Point :=
  [(c.x0 + c.u, c.y0 + c.v), (c.x0 - c.u, c.y0 + c.v), (c.x0 + c.u, c.y0 - c.v), (c.x0 - c.u, c.y0 - c.v),
   (c.x0 + c.v, c.y0 + c.u), (c.x0 - c.v, c.y0 + c.u), (c.x0 + c.v, c.y0 - c.u), (c.x0 - c.v, c.y0 - c.u)]

/-- Draw the first of the points still to draw (R161). -/
def circleEmit (color : Colour) (c : CircleVars) (points : List Point) (s : State) : Act :=
  match points with
  | [] => .finish
  | p :: ps => .emit (pixelFrames s.gfxOpc p color) (.circleLoop color c ps)

/-- The loop: the next point, the next iteration while u < v, or the end (R160, R161). -/
def circleLoopBody (color : Colour) (c : CircleVars) (points : List Point) (s : State) : Act :=
  match points with
  | p :: ps => circleEmit color c (p :: ps) s
  | [] => if c.u < c.v then circleEmit color (circleNext c) (circleOctants (circleNext c)) s else .finish

/-- CIRCLE: the launch (R108, R161). -/
def execCircle (x0 y0 radius : Nat) (color : Colour) (s : State) : Host.Outcome State Fault Refusal :=
  launch (.circle x0 y0 radius color) s

/-- The body of CIRCLE (R161). -/
def circleBody (x0 y0 radius : Nat) (color : Colour) (s : State) : Act :=
  if circleInPanel x0 y0 radius then
    circleEmit color (circleInit x0 y0 radius) (circleExtremes x0 y0 radius) s
  else .fail .range

/-! ## CLEAR -/

/-- CLEAR: the launch (R108, R165). -/
def execClear (s : State) : Host.Outcome State Fault Refusal := launch .clear s

/-- The body of CLEAR: the full-panel window, then the white pairs (R163, R165). -/
def clearBody (s : State) : Act :=
  .emit (windowFrames s.gfxOpc 0 Config.rowMax 0 Config.colMax) (.fillLoop Config.white clearPairs)

end Sys2Proof.Machine
end

