-- ==== Sys2Proof/Machine/Reserved.lean ====
section
/-! DEFINITION. The reserved opcodes 0xA to 0xF (R106): "Launching one executes nothing, emits no frame and leaves
GFX_STATUS.BUSY at 0. It records raster error code 2 (ILLEGAL)". -/

namespace Sys2Proof.Machine

/-- OP = 0xA (R106). -/
def execReservedA (s : State) : Host.Outcome State Fault Refusal := launchIllegal s
/-- OP = 0xB (R106). -/
def execReservedB (s : State) : Host.Outcome State Fault Refusal := launchIllegal s
/-- OP = 0xC (R106). -/
def execReservedC (s : State) : Host.Outcome State Fault Refusal := launchIllegal s
/-- OP = 0xD (R106). -/
def execReservedD (s : State) : Host.Outcome State Fault Refusal := launchIllegal s
/-- OP = 0xE (R106). -/
def execReservedE (s : State) : Host.Outcome State Fault Refusal := launchIllegal s
/-- OP = 0xF (R106). -/
def execReservedF (s : State) : Host.Outcome State Fault Refusal := launchIllegal s

end Sys2Proof.Machine
end

