-- ==== Sys2Proof/Machine/Dispatch.lean ====
section
/-! DEFINITION. The meaning of every instruction: what the host write that launches it does (R108, R110). The later steps
of a raster command are the sequencer's (Machine/Sequencer.lean). -/

namespace Sys2Proof.Machine

def exec (i : Instr) (s : State) : Host.Outcome State Fault Refusal :=
  match i with
  | .nop => Sys2Proof.Machine.execNop s
  | .lcmd byte => Sys2Proof.Machine.execLcmd byte s
  | .ldat byte => Sys2Proof.Machine.execLdat byte s
  | .pixel x y color => Sys2Proof.Machine.execPixel x y color s
  | .line x0 y0 x1 y1 color => Sys2Proof.Machine.execLine x0 y0 x1 y1 color s
  | .rect x0 y0 x1 y1 color => Sys2Proof.Machine.execRect x0 y0 x1 y1 color s
  | .rectf x0 y0 x1 y1 color => Sys2Proof.Machine.execRectf x0 y0 x1 y1 color s
  | .circle x0 y0 radius color => Sys2Proof.Machine.execCircle x0 y0 radius color s
  | .char x y code size fg bg => Sys2Proof.Machine.execChar x y code size fg bg s
  | .string x y size fg bg => Sys2Proof.Machine.execString x y size fg bg s
  | .clear => Sys2Proof.Machine.execClear s
  | .reservedA => Sys2Proof.Machine.execReservedA s
  | .reservedB => Sys2Proof.Machine.execReservedB s
  | .reservedC => Sys2Proof.Machine.execReservedC s
  | .reservedD => Sys2Proof.Machine.execReservedD s
  | .reservedE => Sys2Proof.Machine.execReservedE s
  | .reservedF => Sys2Proof.Machine.execReservedF s
  | .audNop => Sys2Proof.Machine.execAudNop s
  | .arm => Sys2Proof.Machine.execArm s
  | .play => Sys2Proof.Machine.execPlay s
  | .stop => Sys2Proof.Machine.execStop s

end Sys2Proof.Machine
end

