-- ==== Sys2Proof/Machine/Bus.lean ====
section
/-! DEFINITION. The host's steps: the register window (10_state.md) and the host's own accesses of system memory. -/

namespace Sys2Proof.Machine

/-- The 20 registers of R21. -/
inductive Reg where
  | gfxCmdLo
  | gfxCmdHi
  | gfxStatus
  | gfxStrPtr
  | gfxFont0
  | gfxFont1
  | gfxFont2
  | gfxOpc
  | linkCtrl
  | linkStatus
  | audCtrl
  | audStatus
  | audPtr
  | audCnt
  | tmrPr
  | tmrMr
  | tmrTc
  | tmrPc
  | tmrIr
  | dacData
  deriving DecidableEq, Repr

/-- The register at a window offset; none at a reserved one (R21, R44). -/
def regAt (off : BitVec 8) : Option Reg :=
  match off.toNat with
  | 0x00 => some .gfxCmdLo
  | 0x04 => some .gfxCmdHi
  | 0x08 => some .gfxStatus
  | 0x0C => some .gfxStrPtr
  | 0x10 => some .gfxFont0
  | 0x14 => some .gfxFont1
  | 0x18 => some .gfxFont2
  | 0x1C => some .gfxOpc
  | 0x20 => some .linkCtrl
  | 0x24 => some .linkStatus
  | 0x40 => some .audCtrl
  | 0x44 => some .audStatus
  | 0x48 => some .audPtr
  | 0x4C => some .audCnt
  | 0x50 => some .tmrPr
  | 0x54 => some .tmrMr
  | 0x58 => some .tmrTc
  | 0x5C => some .tmrPc
  | 0x60 => some .tmrIr
  | 0x64 => some .dacData
  | _ => none

/-- The offset of a register (R21). -/
def regOffset : Reg → BitVec 8
  | .gfxCmdLo => 0x00
  | .gfxCmdHi => 0x04
  | .gfxStatus => 0x08
  | .gfxStrPtr => 0x0C
  | .gfxFont0 => 0x10
  | .gfxFont1 => 0x14
  | .gfxFont2 => 0x18
  | .gfxOpc => 0x1C
  | .linkCtrl => 0x20
  | .linkStatus => 0x24
  | .audCtrl => 0x40
  | .audStatus => 0x44
  | .audPtr => 0x48
  | .audCnt => 0x4C
  | .tmrPr => 0x50
  | .tmrMr => 0x54
  | .tmrTc => 0x58
  | .tmrPc => 0x5C
  | .tmrIr => 0x60
  | .dacData => 0x64

/-- What a read of a register returns (R21 to R42); AUD_CTRL reads 0 (R32). -/
def readReg (r : Reg) (s : State) : Word :=
  match r with
  | .gfxCmdLo => s.cmdLo
  | .gfxCmdHi => s.cmdHi
  | .gfxStatus => gfxStatus s
  | .gfxStrPtr => s.strPtr
  | .gfxFont0 => s.font0
  | .gfxFont1 => s.font1
  | .gfxFont2 => s.font2
  | .gfxOpc => 0#8 ++ s.gfxOpc
  | .linkCtrl => linkCtrl s
  | .linkStatus => linkStatus s
  | .audCtrl => 0
  | .audStatus => audStatus s
  | .audPtr => s.audPtr
  | .audCnt => s.audCnt
  | .tmrPr => s.tmrPr
  | .tmrMr => s.tmrMr
  | .tmrTc => s.tmrTc
  | .tmrPc => s.tmrPc
  | .tmrIr => tmrIr s
  | .dacData => s.dacData

/-- What a read of a window offset returns; a reserved one reads 0 (R44). -/
def readWindow (off : BitVec 8) (s : State) : Word :=
  match regAt off with
  | some r => readReg r s
  | none => 0

/-- A write of a raster configuration register: refused with error 1 while BUSY = 1 (R31). -/
def gfxConfigWrite (update : State → State) (s : State) : Host.Outcome State Fault Refusal :=
  if gfxBusy s then .next (recordGfx .busy s) else .next (update s)

/-- A write of a stream or timer register: refused with error 2 while Streaming (R43). -/
def audConfigWrite (update : State → State) (s : State) : Host.Outcome State Fault Refusal :=
  if s.audState = .streaming then .next (recordAud .busy s) else .next (update s)

/-- A write of GFX_CMD_HI: refused before decoding while BUSY = 1 (R31, R233); else stored, and the command launched
(R23, R108). -/
def writeCmdHi (v : Word) (s : State) : Host.Outcome State Fault Refusal :=
  if gfxBusy s then .next (recordGfx .busy s)
  else exec (decodeDescriptor (v ++ s.cmdLo)) { s with cmdHi := v }

/-- A write of GFX_STATUS: bit 1 clears ERR and ERRCODE (R25). -/
def writeGfxStatus (v : Word) (s : State) : State := if v.getLsbD 1 then { s with gfxErr := none } else s

/-- A write of AUD_STATUS: bit 2 clears DONE, bit 3 clears ERR and ERRCODE (R34). -/
def writeAudStatus (v : Word) (s : State) : State :=
  { s with
    done := if v.getLsbD 2 then false else s.done
    audErr := if v.getLsbD 3 then none else s.audErr }

/-- A host write of a register (R21 to R43). A write of GFX_CMD_LO latches nothing, so the latched descriptor keeps its
launch value (DESIGN CHOICE, log 26). -/
def writeReg (r : Reg) (v : Word) (s : State) : Host.Outcome State Fault Refusal :=
  match r with
  | .gfxCmdLo => gfxConfigWrite (fun s => { s with cmdLo := v }) s
  | .gfxCmdHi => writeCmdHi v s
  | .gfxStatus => .next (writeGfxStatus v s)
  | .gfxStrPtr => gfxConfigWrite (fun s => { s with strPtr := v }) s
  | .gfxFont0 => gfxConfigWrite (fun s => { s with font0 := v }) s
  | .gfxFont1 => gfxConfigWrite (fun s => { s with font1 := v }) s
  | .gfxFont2 => gfxConfigWrite (fun s => { s with font2 := v }) s
  | .gfxOpc => gfxConfigWrite (fun s => { s with gfxOpc := v.extractLsb' 0 24 }) s
  | .linkCtrl => gfxConfigWrite (fun s => { s with rstN := v.getLsbD 0, clkDiv := v.extractLsb' 8 8 }) s
  | .linkStatus => .next s
  | .audCtrl => exec (decodeControl v) s
  | .audStatus => .next (writeAudStatus v s)
  | .audPtr => audConfigWrite (fun s => { s with audPtr := v }) s
  | .audCnt => audConfigWrite (fun s => { s with audCnt := v }) s
  | .tmrPr => audConfigWrite (fun s => { s with tmrPr := v }) s
  | .tmrMr => audConfigWrite (fun s => { s with tmrMr := v }) s
  | .tmrTc => .next s
  | .tmrPc => .next s
  | .tmrIr => .next s
  | .dacData => audConfigWrite (writeDac v) s

/-- The offset is a multiple of 4 (R20, R78). -/
def wordAligned (off : BitVec 8) : Bool := off.extractLsb' 0 2 == 0#2

/-- A 32-bit host write at a window offset; a reserved one is ignored (R44), an unaligned one is not admitted (R78). -/
def hostWrite (off : BitVec 8) (v : Word) (s : State) : Host.Outcome State Fault Refusal :=
  if wordAligned off then
    match regAt off with
    | some r => writeReg r v s
    | none => .next s
  else .refused .nonWordAccess

/-- s with a host read added to the host's trace (R45: the block's state does not change; log 19). -/
def noteRead (r : HostRead) (s : State) : State := { s with hostReads := s.hostReads ++ [r] }

/-- A 32-bit host read at a window offset (R44, R45, R78). -/
def hostRead (off : BitVec 8) (s : State) : Host.Outcome State Fault Refusal :=
  if wordAligned off then .next (noteRead (.register off (readWindow off s)) s) else .refused .nonWordAccess

/-- One poll of WAIT: the read, and the WAIT again unless (read & mask) = value (R113; log 20). -/
def hostWait (off : BitVec 8) (mask value : Word) (s : State) : Host.Outcome State Fault Refusal :=
  if wordAligned off then
    let v := readWindow off s
    let t := noteRead (.register off v) s
    if v &&& mask = value then .next t else .next { t with host := .wait off mask value :: t.host }
  else .refused .nonWordAccess

/-- A host write of consecutive bytes of system memory, one atomic step (R81, R84; log 7). That it goes on at 0x00000000 past
0xFFFFFFFF is the model's (DESIGN CHOICE, log 30): R79 wraps the block's own addresses only; and so is that any address is admitted,
whatever its alignment (DESIGN CHOICE, log 32), and that a write only some of whose bytes are plain memory stops as a
whole, with the stop of its first byte that is not (DESIGN CHOICE, log 33). -/
def hostStore : Word → List Byte → State → Host.Outcome State Fault Refusal
  | _, [], s => .next s
  | a, b :: bs, s =>
    match addrKind s.platform a with
    | .plain => hostStore (a + 1) bs (withByte s a b)
    | .unbacked => .fault (.hostUnbacked a)
    | .device => .refused (.deviceAccess a)
    | .window => .refused .nonWordAccess

/-- A host read of n consecutive bytes of system memory (R84; log 7), past 0xFFFFFFFF from 0x00000000 on (DESIGN CHOICE,
log 30), at any alignment (DESIGN CHOICE, log 32). A read only some of whose bytes are plain memory stops as a whole, with the
stop of its first byte that is not (DESIGN CHOICE, log 33). -/
def hostLoad : Word → Nat → State → Host.Outcome State Fault Refusal
  | _, 0, s => .next s
  | a, n + 1, s =>
    match addrKind s.platform a with
    | .plain => hostLoad (a + 1) n (noteRead (.memory a (byteAt s a)) s)
    | .unbacked => .fault (.hostUnbacked a)
    | .device => .refused (.deviceAccess a)
    | .window => .refused .nonWordAccess

/-- What is left of a MEM8 after a byte (log 20), from the next address on, modulo 2^32 (log 30). -/
def restMem8 (a : Word) (bs : List Byte) (host : List HostOp) : List HostOp :=
  match bs with
  | [] => host
  | b :: bs => .mem8 a (b :: bs) :: host

/-- What is left of a MEM16 after a halfword (log 20), from the next address on, modulo 2^32 (log 30). -/
def restMem16 (a : Word) (hs : List Half) (host : List HostOp) : List HostOp :=
  match hs with
  | [] => host
  | h :: hs => .mem16 a (h :: hs) :: host

/-- One step of the host on its current operation; s already holds the rest of the host's steps (R113). A MEM16 at an odd
address, and a 32-bit access of memory at any address, are one step too (DESIGN CHOICE, log 32). -/
def hostOp (op : HostOp) (s : State) : Host.Outcome State Fault Refusal :=
  match op with
  | .wr off v => hostWrite off v s
  | .rd off => hostRead off s
  | .wait off mask value => hostWait off mask value s
  | .mem8 _ [] => .next s
  | .mem8 a (b :: bs) => hostStore a [b] { s with host := restMem8 (a + 1) bs s.host }
  | .mem16 _ [] => .next s
  | .mem16 a (h :: hs) =>
    hostStore a [h.extractLsb' 0 8, h.extractLsb' 8 8] { s with host := restMem16 (a + 2) hs s.host }
  | .memRd a => hostLoad a 1 s
  | .busWr a v => if inWindow s.platform a then hostWrite (a.extractLsb' 0 8) v s else hostStore a (bytesOfWord v) s
  | .busRd a => if inWindow s.platform a then hostRead (a.extractLsb' 0 8) s else hostLoad a 4 s
  | .narrow _ => .refused .nonWordAccess

/-- The host's step (R14): the first of its remaining steps; with none left it does nothing. -/
def hostStep (s : State) : Host.Outcome State Fault Refusal :=
  match s.host with
  | [] => .next s
  | op :: rest => hostOp op { s with host := rest }

end Sys2Proof.Machine
end

