-- ==== Sys2Proof/Machine/Sequencer.lean ====
section
/-! DEFINITION. The raster sequencer (R14, R49): one step is one frame emission, one memory read, the command's completion,
or a `raise GfxError`. -/

namespace Sys2Proof.Machine

/-- The next action of a body at a position (R103's command rules). -/
def nextAct (c : Ctl) (s : State) : Act :=
  match c with
  | .lcmd byte => lcmdBody byte
  | .ldat byte => ldatBody byte
  | .pixel x y color => pixelBody x y color s
  | .line x0 y0 x1 y1 color => lineBody x0 y0 x1 y1 color s
  | .rect x0 y0 x1 y1 color => rectBody x0 y0 x1 y1 color s
  | .rectf x0 y0 x1 y1 color => rectfBody x0 y0 x1 y1 color s
  | .circle x0 y0 radius color => circleBody x0 y0 radius color s
  | .char x y code size fg bg => charBody x y code size fg bg s
  | .string x y size fg bg => stringBody x y size fg bg s
  | .clear => clearBody s
  | .lineLoop color vars rest => lineLoopBody color vars rest s
  | .fillLoop color left => fillLoopBody color left
  | .circleLoop color vars points => circleLoopBody color vars points s
  | .stringChar g => stringCharBody g s
  | .headerRows g cols => headerRowsBody g cols s
  | .headerStride g cols rows => headerStrideBody g cols rows s
  | .headerDone g h => headerDoneBody g h s
  | .glyphRow g h row => glyphRowBody g h row s
  | .glyphBits g h row bits => glyphBitsBody g h row bits
  | .finish => .finish

/-- One frame of a group goes out and the rest of the group stays (R136). A group of the spec is never empty. -/
def emitGroup (out : List Frame) (next : Ctl) (s : State) : State :=
  match out with
  | [] => { s with seq := .running [] next }
  | f :: fs => frameOut f { s with seq := .running fs next }

/-- An action taken as the sequencer's step. A read the platform does not back leaves the command without a step, BUSY = 1
(R236; log 6); one of a device is refused (R82). -/
def takeAct (a : Act) (s : State) : Host.Outcome State Fault Refusal :=
  match a with
  | .emit out next => .next (emitGroup out next s)
  | .read addr next =>
    match memRead1 s addr with
    | .value b => .next { s with seq := .running [] (next b), gfxReads := s.gfxReads ++ [addr] }
    | .stuck => .next s
    | .device d => .refused (.deviceRead d)
  | .finish => .next { s with seq := .idle }
  | .fail e => .next (raiseGfx e s)

/-- The raster sequencer's step (R14); Idle, it has none. -/
def rasterStep (s : State) : Host.Outcome State Fault Refusal :=
  match s.seq with
  | .idle => .next s
  | .running (f :: fs) ctl => .next (emitGroup (f :: fs) ctl s)
  | .running [] ctl => takeAct (nextAct ctl s) s

end Sys2Proof.Machine
end

