-- ==== Sys2Proof/Machine/Agents.lean ====
section
/-! DEFINITION. Who moves next and what each agent's turn does (R14, R240), and the reset input (70_reset_and_hazards.md). -/

namespace Sys2Proof.Machine

/-- Reset (R260, R262, R263): every register and hidden state at its reset value, the histories empty; system memory, the
platform and the host are untouched, and so is the schedule (log 13). -/
def resetBlock (s : State) : State :=
  { State.reset with
    mem := s.mem
    platform := s.platform
    host := s.host
    hostReads := s.hostReads
    sched := s.sched
    turn := s.turn }

/-- Whose turn it is: the schedule's next, or past its end a free choice ("Any enabled step of any agent may be taken
next", R14; log 1). -/
def nextTurn (s : State) : Turn :=
  match s.sched with
  | t :: _ => t
  | [] => Config.arbiter s.turn

/-- s with the turn used up. -/
def tookTurn (s : State) : State := { s with sched := s.sched.tail, turn := s.turn + 1 }

/-- The step of the agent whose turn it is; an agent with no enabled step leaves the state as it is (log 1). -/
def turnStep (t : Turn) (s : State) : Host.Outcome State Fault Refusal :=
  match t with
  | .host => hostStep s
  | .raster => rasterStep s
  | .timer => timerStep s
  | .service => serviceStep s
  | .reset => .next (resetBlock s)

end Sys2Proof.Machine
end

