-- ==== Sys2Proof/Machine/Step.lean ====
section
/-! DEFINITION. The step of the machine, and the state in which the next step runs a given instruction. -/

namespace Sys2Proof.Machine

/-- One step: the agent whose turn it is takes its step (R14). -/
def step (s : State) : Host.Outcome State Fault Refusal := turnStep (nextTurn s) (tookTurn s)

/-- s with the instruction whose opcode-table bits are w placed so that the very next step runs it (log 2): the next turn
is the host's, and the host's next operation is the write that executes it. For a descriptor the low word already stands
in GFX_CMD_LO and the raster sequencer is Idle, as a launch needs (R108). -/
def State.withFetchWord (s : State) (nbits w : Nat) : State :=
  match portOfBits nbits with
  | none => s
  | some .raster =>
    { s with
      cmdLo := BitVec.ofNat 32 w
      seq := .idle
      host := .wr 0x04 (BitVec.ofNat 32 (w / 2 ^ 32)) :: s.host
      sched := .host :: s.sched }
  | some .audio =>
    { s with
      host := .wr 0x40 (BitVec.ofNat 32 w) :: s.host
      sched := .host :: s.sched }

end Sys2Proof.Machine
end

