-- ==== Sys2Proof/Machine/Controller.lean ====
section
/-! DEFINITION. The reference model of the display controller (20_memory.md rules R90 to R96): environment, "not part of
the block", "for stating properties only". It is a function of link frames; no step of the machine reads it (log 17). -/

namespace Sys2Proof.Machine

/-- The controller's mode (R90). -/
inductive CtrlMode where
  | cmd
  | pa1
  | pa2
  | ca1
  | ca2
  | write
  deriving DecidableEq, Repr

/-- The reference controller's state (R90): mode, window bounds, write pointer, partial pixel, byte phase, and the pixels
written, newest first. `received` counts the pixels received, for the free value of R94. -/
structure Controller where
  mode : CtrlMode
  rs : Byte
  re : Byte
  cs : Byte
  ce : Byte
  r : Int
  c : Int
  partialPixel : Colour
  phase : Nat
  pixels : List (Point × Colour)
  received : Nat
  deriving DecidableEq, Repr

/-- The reference controller right after a block reset. R263's row for it says mode Cmd and everything else unknown; R262
and 93 entry I24 say that the mode is unknown too. The model takes R263's Cmd (DESIGN CHOICE, log 29); every other field,
k's, is unknown (R90). -/
def ctrlReset (k : Controller) : Controller := { k with mode := .cmd }

/-- The newest value written to a pixel. -/
def pixelIn : List (Point × Colour) → Point → Option Colour
  | [], _ => none
  | (q, v) :: ps, p => if q = p then some v else pixelIn ps p

/-- M[row][col] (R90): what was last written there, unknown before. -/
def pixelAt (k : Controller) (p : Point) : Colour :=
  match pixelIn k.pixels p with
  | some v => v
  | none => Config.unknownPixel p.1 p.2

/-- The window's bounds are those of a window the block may program (R94). -/
def ctrlWindowOk (k : Controller) : Bool :=
  decide (k.rs ≤ k.re) && decide (k.cs ≤ k.ce) && decide ((k.re.toNat : Int) ≤ Config.rowMax) &&
    decide ((k.ce.toNat : Int) ≤ Config.colMax)

/-- The pointer's advance in raster order, columns fastest, wrapping at the window's end (R93). -/
def ctrlAdvance (k : Controller) : Controller :=
  if (k.ce.toNat : Int) < k.c + 1 then
    if (k.re.toNat : Int) < k.r + 1 then { k with c := k.cs.toNat, r := k.rs.toNat }
    else { k with c := k.cs.toNat, r := k.r + 1 }
  else { k with c := k.c + 1 }

/-- PutPixel(v) (R93); through a window the block never programs it has any effect on M (R94), a free value that may depend
on the colour, the pointer, the window, the memory before it and the pixels received (log 17). -/
def putPixel (v : Colour) (k : Controller) : Controller :=
  let k1 := { k with received := k.received + 1 }
  if ctrlWindowOk k then ctrlAdvance { k1 with pixels := ((k.r, k.c), v) :: k.pixels }
  else
    ctrlAdvance
      { k1 with pixels := Config.badWindowPixels k.received [k.rs, k.re, k.cs, k.ce] (k.r, k.c) v k.pixels }

/-- The three opcode bytes of GFX_OPC differ, so that R91's cases are distinct. -/
def opcDistinct (opc : BitVec 24) : Bool :=
  opcPaset opc != opcCaset opc && opcPaset opc != opcRamwr opc && opcCaset opc != opcRamwr opc

/-- A command frame with payload b (R91). Where bytes of GFX_OPC coincide R91 does not say which case applies: the model
takes the first that R91 lists, PASET, then CASET, then RAMWR (DESIGN CHOICE, log 27). -/
def ctrlCommand (opc : BitVec 24) (b : Byte) (k : Controller) : Controller :=
  if b = opcPaset opc then { k with mode := .pa1 }
  else if b = opcCaset opc then { k with mode := .ca1 }
  else if b = opcRamwr opc then { k with r := k.rs.toNat, c := k.cs.toNat, phase := 0, mode := .write }
  else { k with mode := .cmd }

/-- A data frame in mode Write: the inverse of the packing (R92). -/
def ctrlPixelByte (b : Byte) (k : Controller) : Controller :=
  match k.phase with
  | 0 => { k with partialPixel := b ++ 0#4, phase := 1 }
  | 1 =>
    { putPixel (k.partialPixel ||| (0#8 ++ b.extractLsb' 4 4)) k with
      partialPixel := b.extractLsb' 0 4 ++ 0#8, phase := 2 }
  | _ => { putPixel (k.partialPixel ||| (0#4 ++ b)) k with phase := 0 }

/-- A data frame with payload b (R91). -/
def ctrlData (b : Byte) (k : Controller) : Controller :=
  match k.mode with
  | .pa1 => { k with rs := b, mode := .pa2 }
  | .pa2 => { k with re := b, mode := .cmd }
  | .ca1 => { k with cs := b, mode := .ca2 }
  | .ca2 => { k with ce := b, mode := .cmd }
  | .write => ctrlPixelByte b k
  | .cmd => k

/-- A frame, by its tag (R91, R130); opc is GFX_OPC. -/
def ctrlFrame (opc : BitVec 24) (k : Controller) (f : Frame) : Controller :=
  if f.getLsbD 8 then ctrlData (f.extractLsb' 0 8) k else ctrlCommand opc (f.extractLsb' 0 8) k

/-- A sequence of frames, first to last. -/
def ctrlFrames (opc : BitVec 24) (k : Controller) (fs : List Frame) : Controller := fs.foldl (ctrlFrame opc) k

/-- A colour's channels: R = v[11:8], G = v[7:4], B = v[3:0] (R95). -/
def colourChannels (v : Colour) : BitVec 4 × BitVec 4 × BitVec 4 :=
  (v.extractLsb' 8 4, v.extractLsb' 4 4, v.extractLsb' 0 4)

end Sys2Proof.Machine
end

