-- ==== Sys2Proof/Machine/Program.lean ====
section
/-! DEFINITION. The pseudo-instructions of 30_encoding.md rules R114 and R115, the display reset pulse and the
boot order of 70_reset_and_hazards.md, as the host steps they expand to. -/

namespace Sys2Proof.Machine

/-- A host write of a register by its mnemonic (R113). -/
def wrReg (r : Reg) (v : Word) : HostOp := .wr (regOffset r) v

/-- WAIT on a register by its mnemonic (R113). -/
def waitReg (r : Reg) (mask value : Word) : HostOp := .wait (regOffset r) mask value

/-- AINIT pr, mr (R114). -/
def ainit (pr mr : Word) : List HostOp := [wrReg .tmrPr pr, wrReg .tmrMr mr, wrReg .audCtrl 1]

/-- APLAY ptr, n (R114). -/
def aplay (ptr n : Word) : List HostOp := [wrReg .audPtr ptr, wrReg .audCnt n, wrReg .audCtrl 2]

/-- ASTOP (R114). -/
def astop : List HostOp := [wrReg .audCtrl 3]

/-- AWAIT (R114). -/
def await : List HostOp := [waitReg .audStatus 0x3 1]

/-- The writes that issue an instruction: GFX_CMD_LO then GFX_CMD_HI, or AUD_CTRL (R108, R110, R112). -/
def issue (i : Instr) : List HostOp :=
  match encode i with
  | .raster d => [wrReg .gfxCmdLo (descriptorLo d), wrReg .gfxCmdHi (descriptorHi d)]
  | .audio w => [wrReg .audCtrl w]

/-- G <command> (R115). -/
def gCommand (i : Instr) : List HostOp := issue i ++ [waitReg .gfxStatus 0x1 0]

/-- PUTSTR ptr, x, y, size, fg, bg (R115). -/
def putstr (ptr : Word) (x y : Nat) (size : BitVec 2) (fg bg : Colour) : List HostOp :=
  wrReg .gfxStrPtr ptr :: gCommand (.string x y size fg bg)

/-- The display reset pulse: RST_N low, then released, with CLKDIV set (R135, R266). The host's waits between and after are
time, which no step is (log 25). -/
def displayReset (clkDiv : Byte) : List HostOp :=
  [wrReg .linkCtrl (0#16 ++ clkDiv ++ 0#8), wrReg .linkCtrl (0#16 ++ clkDiv ++ 1#8)]

/-- The boot order's host steps 2 to 6 (R264): the link's rate and the pulse, the controller's power-up commands (LCMD and
LDAT, which the spec does not give, R143), before them GFX_OPC where the controller needs other bytes than its reset
value's (`opc`, step 4's "write GFX_OPC first"), the glyph tables and their registers, the timer and ARM, the sample
buffer. -/
def bootOrder (clkDiv : Byte) (opc : Option Word) (powerUp : List Instr) (tables : List (Word × List Byte))
    (font0 font1 font2 pr mr : Word) (buffer : Word) (samples : List Half) : List HostOp :=
  displayReset clkDiv ++ (opc.map (wrReg .gfxOpc)).toList ++ powerUp.flatMap gCommand ++ tables.map (fun t => .mem8 t.1 t.2) ++
    [wrReg .gfxFont0 font0, wrReg .gfxFont1 font1, wrReg .gfxFont2 font2] ++ ainit pr mr ++ [.mem16 buffer samples]

end Sys2Proof.Machine
end

