-- ==== Sys2Proof/Machine/Reference.lean ====
section
/-! DEFINITION. Each raster command's body as one function of the state it is launched in, written straight from the
command rules' pseudocode (40_link.md, 41_raster.md, 42_glyph.md): the frames it emits, the addresses it reads, and how it
ends. The machine does not use it: the sequencer runs a body one frame or read a step (R14). Statements compare the two. -/

namespace Sys2Proof.Machine

/-- How a body ends (R13, R236, R82). -/
inductive BodyEnd where
  | done
  | error (e : GfxError)
  | stuck
  | device (addr : Word)
  deriving DecidableEq, Repr

/-- What a body does, its frames and its reads each in order. -/
structure BodyRun where
  frames : List Frame
  reads : List Word
  result : BodyEnd
  deriving DecidableEq, Repr

/-- `done`. -/
def refDone : BodyRun := { frames := [], reads := [], result := .done }

/-- `raise GfxError(e)`. -/
def refFail (e : GfxError) : BodyRun := { frames := [], reads := [], result := .error e }

/-- Emit frames, then go on. -/
def refEmit (fs : List Frame) (r : BodyRun) : BodyRun := { r with frames := fs ++ r.frames }

/-- MemRead(addr, 1), then go on with the byte. -/
def refRead (s : State) (a : Word) (k : Byte → BodyRun) : BodyRun :=
  match memRead1 s a with
  | .value b => { k b with reads := a :: (k b).reads }
  | .stuck => { frames := [], reads := [], result := .stuck }
  | .device d => { frames := [], reads := [], result := .device d }

/-- n rounds of the line loop (R152). -/
def lineRun : Nat → LineVars → List Point
  | 0, _ => []
  | n + 1, v => linePoint v :: lineRun n (lineNext v)

/-- LinePoints(x0, y0, x1, y1) (R152). -/
def linePoints (x0 y0 x1 y1 : Int) : List Point :=
  let v := lineInit { x0 := x0, y0 := y0, x1 := x1, y1 := y1 }
  lineRun v.left v

/-- The points of the circle loop, at most n rounds (R160). -/
def circleRun : Nat → CircleVars → List Point
  | 0, _ => []
  | n + 1, c => if c.u < c.v then circleOctants (circleNext c) ++ circleRun n (circleNext c) else []

/-- The working variables of CirclePoints(x0, y0, r) after n rounds of the loop's updates (R160). -/
def circleVarsAt (x0 y0 r : Int) : Nat → CircleVars
  | 0 => circleInit x0 y0 r
  | n + 1 => circleNext (circleVarsAt x0 y0 r n)

/-- CirclePoints(x0, y0, r) (R160). u rises by one a round and v never rises, so r rounds are enough. -/
def circlePoints (x0 y0 : Int) (r : Nat) : List Point :=
  circleExtremes x0 y0 r ++ circleRun r (circleInit x0 y0 r)

/-- The four segments of RECT, in R158's order. -/
def rectPoints (x0 y0 x1 y1 : Int) : List Point :=
  linePoints x0 y0 x1 y0 ++ linePoints x0 y1 x1 y1 ++ linePoints x0 y0 x0 y1 ++ linePoints x1 y0 x1 y1

/-- One Pixel per point, in order (R150). -/
def pixelsFrames (opc : BitVec 24) (ps : List Point) (c : Colour) : List Frame :=
  ps.flatMap fun p => pixelFrames opc p c

/-- n pairs of one colour. -/
def pairsFrames (c : Colour) : Nat → List Frame
  | 0 => []
  | n + 1 => pairFrames c c ++ pairsFrames c n

/-- The last n bitmap rows of a glyph, then what follows (R187). -/
def refRows (s : State) (g : GlyphVars) (h : GlyphHeader) (after : BodyRun) : Nat → BodyRun
  | 0 => after
  | n + 1 =>
    refRead s (rowAddr (fontBase s g.size) h.stride g.code (h.rows - (n + 1))) fun b =>
      refEmit (rowFrames g h b) (refRows s g h after n)

/-- DrawGlyph, then what follows (R187). -/
def refGlyph (s : State) (g : GlyphVars) (after : BodyRun) : BodyRun :=
  if g.size = 3 then refFail .size
  else if codeValid g.code then
    refRead s (headerAddr (fontBase s g.size) 0) fun cols =>
    refRead s (headerAddr (fontBase s g.size) 1) fun rows =>
    refRead s (headerAddr (fontBase s g.size) 2) fun stride =>
      let h : GlyphHeader := { cols := cols.toNat, rows := rows.toNat, stride := stride.toNat }
      if headerValid h then
        if glyphInPanel g h then refEmit (glyphWindow s.gfxOpc g h) (refRows s g h after h.rows)
        else refFail .range
      else refFail .glyph
  else refFail .glyph

/-- The string loop from character i at column cy, at most n characters (R193). -/
def refString (s : State) (x : Int) (size : BitVec 2) (fg bg : Colour) : Nat → Int → Nat → BodyRun
  | 0, _, _ => refDone
  | n + 1, cy, i =>
    refRead s (stringAddr s i) fun ch =>
      if ch = 0 then refDone
      else
        refGlyph s { x := x, y := cy, code := ch.toNat, size := size, fg := fg, bg := bg, index := some i }
          (if Config.colMax < cy + pitch size then refDone
           else refString s x size fg bg n (cy + pitch size) (i + 1))

/-- "STRING always ends": cy rises by at least 6 a character from at least 0 and stops above 131 (R193). -/
def maxStringChars : Nat := 22

/-- The body of a raster command launched in state s; the other instructions have none. -/
def refBody (i : Instr) (s : State) : BodyRun :=
  match i with
  | .nop => refDone
  | .lcmd byte => refEmit [cmdFrame byte] refDone
  | .ldat byte => refEmit [dataFrame byte] refDone
  | .pixel x y color => if inPanel x y then refEmit (pixelFrames s.gfxOpc (x, y) color) refDone else refFail .range
  | .line x0 y0 x1 y1 color =>
    if endsInPanel x0 y0 x1 y1 then refEmit (pixelsFrames s.gfxOpc (linePoints x0 y0 x1 y1) color) refDone
    else refFail .range
  | .rect x0 y0 x1 y1 color =>
    if endsInPanel x0 y0 x1 y1 then refEmit (pixelsFrames s.gfxOpc (rectPoints x0 y0 x1 y1) color) refDone
    else refFail .range
  | .rectf x0 y0 x1 y1 color =>
    if endsInPanel x0 y0 x1 y1 then
      let b := boundingBox x0 y0 x1 y1
      refEmit (windowFrames s.gfxOpc b.xmin b.xmax b.ymin b.ymax ++ pairsFrames color (fillPairs b)) refDone
    else refFail .range
  | .circle x0 y0 r color =>
    if circleInPanel x0 y0 r then refEmit (pixelsFrames s.gfxOpc (circlePoints x0 y0 r) color) refDone
    else refFail .range
  | .char x y code size fg bg =>
    if inPanel x y then
      refGlyph s { x := x, y := y, code := code, size := size, fg := fg, bg := bg, index := none } refDone
    else refFail .range
  | .string x y size fg bg => if inPanel x y then refString s x size fg bg maxStringChars y 0 else refFail .range
  | .clear =>
    refEmit (windowFrames s.gfxOpc 0 Config.rowMax 0 Config.colMax ++ pairsFrames Config.white clearPairs) refDone
  | .reservedA => refDone
  | .reservedB => refDone
  | .reservedC => refDone
  | .reservedD => refDone
  | .reservedE => refDone
  | .reservedF => refDone
  | .audNop => refDone
  | .arm => refDone
  | .play => refDone
  | .stop => refDone

/-- n steps of the raster sequencer alone. -/
def rasterRun : Nat → State → Host.Outcome State Fault Refusal
  | 0, s => .next s
  | n + 1, s =>
    match rasterStep s with
    | .next t => rasterRun n t
    | .fault r => .fault r
    | .refused r => .refused r

/-- s right after an accepted launch of a command with this body (R108). -/
def launched (body : Ctl) (s : State) : State :=
  { s with latched := s.cmdHi ++ s.cmdLo, seq := .running [] body }

/-- The error record once a body has ended so (R231). -/
def errorAfter : BodyEnd → Option GfxError → Option GfxError
  | .error e, none => some e
  | _, old => old

/-- s once a body launched in it has run to its end with these frames, reads and result, and nothing else has moved. -/
def bodyEffect (r : BodyRun) (s : State) : State :=
  { s with
    latched := s.cmdHi ++ s.cmdLo
    seq := .idle
    frames := s.frames ++ r.frames
    gfxReads := s.gfxReads ++ r.reads
    gfxErr := errorAfter r.result s.gfxErr }

/-- The body a raster command's launch starts; the other instructions start none (R103, R108). -/
def bodyOf (i : Instr) : Option Ctl :=
  match i with
  | .nop => none
  | .lcmd byte => some (.lcmd byte)
  | .ldat byte => some (.ldat byte)
  | .pixel x y color => some (.pixel x y color)
  | .line x0 y0 x1 y1 color => some (.line x0 y0 x1 y1 color)
  | .rect x0 y0 x1 y1 color => some (.rect x0 y0 x1 y1 color)
  | .rectf x0 y0 x1 y1 color => some (.rectf x0 y0 x1 y1 color)
  | .circle x0 y0 radius color => some (.circle x0 y0 radius color)
  | .char x y code size fg bg => some (.char x y code size fg bg)
  | .string x y size fg bg => some (.string x y size fg bg)
  | .clear => some .clear
  | .reservedA => none
  | .reservedB => none
  | .reservedC => none
  | .reservedD => none
  | .reservedE => none
  | .reservedF => none
  | .audNop => none
  | .arm => none
  | .play => none
  | .stop => none

/-- s once a command launched in it has emitted these frames and completed, no byte read (R108). -/
def drawn (fs : List Frame) (s : State) : State :=
  { s with latched := s.cmdHi ++ s.cmdLo, seq := .idle, frames := s.frames ++ fs }

/-- s once a command launched in it has raised an error after these reads, no frame emitted (R231, R234). -/
def refusedWith (e : GfxError) (reads : List Word) (s : State) : State :=
  { s with
    latched := s.cmdHi ++ s.cmdLo
    seq := .idle
    gfxReads := s.gfxReads ++ reads
    gfxErr := some (s.gfxErr.getD e) }

/-- s once a command launched in it has emitted these frames, made these reads and raised an error (R231, R234). -/
def refusedAfter (e : GfxError) (fs : List Frame) (reads : List Word) (s : State) : State :=
  { refusedWith e reads s with frames := s.frames ++ fs }

/-- n rounds of a tick followed by its service (R202, R210), nothing else moving. -/
def streamRun : Nat → State → Host.Outcome State Fault Refusal
  | 0, s => .next s
  | n + 1, s =>
    match serviceStep (tick s) with
    | .next t => streamRun n t
    | .fault r => .fault r
    | .refused r => .refused r

/-- n PCLK cycles, nothing else moving (R201). -/
def timerRun : Nat → State → State
  | 0, s => s
  | n + 1, s => timerRun n (timerCycle s)

end Sys2Proof.Machine
end

