-- ==== Sys2Proof/Safety.lean ====
section
/-! DEFINITION. What counts as a good state and a good run: the invariants the rules promise, the clean start (R280), the
end of a run (R281) and weak fairness (R275). -/

namespace Sys2Proof.Safety

open Sys2Proof.Machine

/-- No frame is in flight, none is being shifted, chip-select is deasserted, no received word is held (R131, R133, R134:
"Between frames CS_N is 1"). -/
def LinkIdle (s : State) : Prop := s.fBusy = false ∧ s.csN = true ∧ s.inFlight = none ∧ s.rxWord = none

/-- While a command runs, the latched descriptor equals GFX_CMD_HI:GFX_CMD_LO (R49). R49 says it of the descriptor that
outlives a command too; that the equality ends with a later write of GFX_CMD_LO is the model's (DESIGN CHOICE, log 26). -/
def LatchedAgrees (s : State) : Prop := gfxBusy s = true → s.latched = s.cmdHi ++ s.cmdLo

/-- "TMR_TC and TMR_PC are read-only and are 0 whenever STATE != Streaming"; no tick is pending then (R41, R245). -/
def StoppedTimerClear (s : State) : Prop :=
  s.audState ≠ .streaming → s.tmrTc = 0 ∧ s.tmrPc = 0 ∧ s.mr0 = false

/-- "While Streaming, TMR_TC <= TMR_MR and TMR_PC <= TMR_PR" (R245). -/
def CountersBounded (s : State) : Prop := s.audState = .streaming → s.tmrTc ≤ s.tmrMr ∧ s.tmrPc ≤ s.tmrPr

/-- A stream has samples left and an even pointer (R80, R207, R210, R211). -/
def StreamSound (s : State) : Prop := s.audState = .streaming → s.audCnt ≠ 0 ∧ s.audPtr.getLsbD 0 = false

/-- DACEN is 1 exactly once the engine has left Idle (R200, R206, R214). -/
def DacEnabledOnceArmed (s : State) : Prop := s.dacEn = true ↔ s.audState ≠ .idle

/-- The invariant of the machine: memory is canonical, the link is at rest between steps, and the registers keep what
R41, R49, R80, R214 and R245 promise. -/
def MachineInvariant (s : State) : Prop :=
  s.mem.wf = true ∧ LinkIdle s ∧ LatchedAgrees s ∧ StoppedTimerClear s ∧ CountersBounded s ∧ StreamSound s ∧
    DacEnabledOnceArmed s

/-- No error is recorded in either unit (R280). -/
def NoErrorRecorded (s : State) : Prop := s.gfxErr = none ∧ s.audErr = none

/-- A clean entry (R280): GFX_STATUS = 0, AUD_STATUS.ERR = 0, STATE Idle or Armed, MR0 = 0, no frame in flight. -/
def CleanStart (s : State) : Prop :=
  gfxStatus s = 0 ∧ s.audErr = none ∧ s.audState ≠ .streaming ∧ s.mr0 = false ∧ s.inFlight = none

/-- A run has ended (R281). -/
def RunEnded (s : State) : Prop :=
  s.host = [] ∧ gfxBusy s = false ∧ s.inFlight = none ∧ s.audState ≠ .streaming ∧ s.mr0 = false

/-- The observation of a run (R96, R281): the frame history, the DAC_DATA history, and every register. -/
def observe (s : State) : List Frame × List Word × (Reg → Word) := (s.frames, s.dacHist, fun r => readReg r s)

/-- Weak fairness as a schedule gives it: every agent but the host and the reset input gets a turn again and again (R275).
A turn of an agent without an enabled step changes nothing, so this is enough. -/
def FairSchedule (turns : Nat → Turn) : Prop :=
  ∀ a, a = Turn.raster ∨ a = Turn.timer ∨ a = Turn.service → ∀ n, ∃ m, n ≤ m ∧ turns m = a

/-- A state some run from s reaches. -/
inductive Reaches : State → State → Prop where
  | refl (s : State) : Reaches s s
  | next (s t u : State) : Reaches s t → step t = .next u → Reaches s u

end Sys2Proof.Safety
end

