-- ==== Sys2Proof/Certificates/Slice0/Obligations.lean ====
section
/-! DEFINITION. The statements for the provers, each a proposition about the model. Result statements give the whole next
state, `{ s with ... }`, so each is its own frame: whatever is not named in it is unchanged. -/

open Sys2Proof Sys2Proof.Machine Sys2Proof.Safety

/-! ## Reset, and the invariant -/

/-- R260 and R263: the reset input, from any state, restores every register and hidden state at once, and system memory is
untouched (R262). That the platform (log 3), the host's program, the host's trace and the schedule go on through it, and
that the logs of the engines' reads are emptied, is the model's choice (log 13). -/
def Obligations.ResetInputRestoresTheBlock : Prop :=
  (∀ off : BitVec 8, readWindow off State.reset =
    if off = 0x1C then 0x005C1575 else if off = 0x20 then 0x0000FF01 else if off = 0x24 then 0x00000002 else 0) ∧
  ∀ (s : State) (turns : List Turn), s.sched = .reset :: turns →
    step s = .next { State.reset with
      mem := s.mem, platform := s.platform, host := s.host, hostReads := s.hostReads, sched := turns, turn := s.turn + 1 } ∧
    gfxBusy State.reset = false ∧ State.reset.latched = 0 ∧ State.reset.inFlight = none ∧
    timerRunning State.reset = false ∧ State.reset.timerPhase = 0 ∧ State.reset.frames = [] ∧ State.reset.dacHist = []

/-- The invariant holds right after reset (R260, R263). -/
def Obligations.ResetMeetsTheInvariant : Prop := MachineInvariant State.reset

/-- Every step of every agent keeps the invariant: the latched descriptor equal to GFX_CMD_HI:GFX_CMD_LO while a command
runs (R49; log 26), the stopped timer clear and the running one within its bounds (R41, R245), an even pointer and samples
left while Streaming (R80), DACEN as R214 has it. That the link is at rest between any two steps (FBUSY = 0, CS_N = 1, no
frame in flight) is the model's reading of R136's "one atomic step" (log 9); that no received word is held is log 10's,
and the canonical form of memory is the model's own (log 4). -/
def Obligations.EveryStepKeepsTheInvariant : Prop :=
  ∀ s t : State, MachineInvariant s → step s = .next t → MachineInvariant t

/-! ## Encoding -/

/-- Words written out from R101, R103 and R110 (and the vectors of 95_test_vectors.md), their operands distinct, decode to
their instructions; and R101, R103, R105, R106 and R110 as a table: the operands of every descriptor and the operation of
every audio control word, from the bits where the rules put them. -/
def Obligations.SpecWordsDecode : Prop :=
  (decode (.raster 0x30000F000000140A) = .pixel 10 20 0xF00 ∧
    decode (.raster 0x4000012304010205) = .line 5 2 1 4 0x123 ∧
    decode (.raster 0x4000000001040000) = .line 0 0 4 1 0x000 ∧
    decode (.raster 0x510000F001000302) = .rectf 2 3 0 1 0x0F0 ∧
    decode (.raster 0x50000FFF02020000) = .rect 0 0 2 2 0xFFF ∧
    decode (.raster 0x600000AB0003140A) = .circle 10 20 3 0x0AB ∧
    decode (.raster 0x70FFF00000410000) = .char 0 0 0x41 0 0x000 0xFFF ∧
    decode (.raster 0x7445612300413412) = .char 0x12 0x34 0x41 2 0x123 0x456 ∧
    decode (.raster 0x8245612300003412) = .string 0x12 0x34 1 0x123 0x456 ∧
    decode (.raster 0x9045612300000000) = .clear ∧
    decode (.raster 0x1FFFFFFF123456FF) = .lcmd 0xFF ∧
    decode (.raster 0x200000000000005A) = .ldat 0x5A ∧
    decode (.audio 0xFFFFFFFE) = .play) ∧
  (∀ (d : Descriptor) (a b c e : Nat) (color bg : Colour) (size : BitVec 2),
    a = (d.extractLsb' 0 8).toNat → b = (d.extractLsb' 8 8).toNat → c = (d.extractLsb' 16 8).toNat →
    e = (d.extractLsb' 24 8).toNat → color = d.extractLsb' 32 12 → bg = d.extractLsb' 44 12 →
    size = d.extractLsb' 57 2 →
    decodeDescriptor d =
      if d.extractLsb' 60 4 = 0x0 then .nop
      else if d.extractLsb' 60 4 = 0x1 then .lcmd (d.extractLsb' 0 8)
      else if d.extractLsb' 60 4 = 0x2 then .ldat (d.extractLsb' 0 8)
      else if d.extractLsb' 60 4 = 0x3 then .pixel a b color
      else if d.extractLsb' 60 4 = 0x4 then .line a b c e color
      else if d.extractLsb' 60 4 = 0x5 then if d.getLsbD 56 then .rectf a b c e color else .rect a b c e color
      else if d.extractLsb' 60 4 = 0x6 then .circle a b c color
      else if d.extractLsb' 60 4 = 0x7 then .char a b c size color bg
      else if d.extractLsb' 60 4 = 0x8 then .string a b size color bg
      else if d.extractLsb' 60 4 = 0x9 then .clear
      else if d.extractLsb' 60 4 = 0xA then .reservedA
      else if d.extractLsb' 60 4 = 0xB then .reservedB
      else if d.extractLsb' 60 4 = 0xC then .reservedC
      else if d.extractLsb' 60 4 = 0xD then .reservedD
      else if d.extractLsb' 60 4 = 0xE then .reservedE
      else .reservedF) ∧
  ∀ w : Word, decodeControl w =
    if w.extractLsb' 0 2 = 0 then .audNop
    else if w.extractLsb' 0 2 = 1 then .arm
    else if w.extractLsb' 0 2 = 2 then .play
    else .stop

/-- Decoding an encoded well-formed instruction gives it back, for every instruction (R101, R102, R109 to R112). -/
def Obligations.EncodedInstructionsDecodeBack : Prop :=
  ∀ i : Instr, i.wellFormed = true → decode (encode i) = i

/-- R104, R107: two descriptors that agree on the fields their opcode uses decode to the same instruction; so do two audio
control words that agree on OP (R110). -/
def Obligations.UnusedFieldsAreIgnored : Prop :=
  (∀ d d' : Descriptor, fieldOp d = fieldOp d' →
    ((fieldOp d).toNat ∈ [1, 2, 3, 4, 5, 6, 7, 8] → fieldA d = fieldA d') →
    ((fieldOp d).toNat ∈ [3, 4, 5, 6, 7, 8] → fieldB d = fieldB d' ∧ fieldColor d = fieldColor d') →
    ((fieldOp d).toNat ∈ [4, 5, 6, 7] → fieldC d = fieldC d') →
    ((fieldOp d).toNat ∈ [4, 5] → fieldE d = fieldE d') →
    ((fieldOp d).toNat = 5 → fieldFill d = fieldFill d') →
    ((fieldOp d).toNat ∈ [7, 8] → fieldBg d = fieldBg d' ∧ fieldSize d = fieldSize d') →
    decodeDescriptor d = decodeDescriptor d') ∧
  ∀ w w' : Word, w.extractLsb' 0 2 = w'.extractLsb' 0 2 → decodeControl w = decodeControl w'

/-- R105: with OP = 0x5, FILL selects RECTF or RECT; with any other opcode FILL (bit 56) is ignored. -/
def Obligations.FillSelectsTheRectangle : Prop :=
  (∀ d : Descriptor, fieldOp d = 0x5 → fieldFill d = true →
    decodeDescriptor d =
      .rectf (fieldA d).toNat (fieldB d).toNat (fieldC d).toNat (fieldE d).toNat (fieldColor d)) ∧
  (∀ d : Descriptor, fieldOp d = 0x5 → fieldFill d = false →
    decodeDescriptor d =
      .rect (fieldA d).toNat (fieldB d).toNat (fieldC d).toNat (fieldE d).toNat (fieldColor d)) ∧
  ∀ d : Descriptor, fieldOp d ≠ 0x5 → decodeDescriptor (d ^^^ 0x0100000000000000#64) = decodeDescriptor d

/-- The step runs the decoded instruction: a host write of GFX_CMD_HI while BUSY = 0, or of AUD_CTRL, at its window offset
or at its bus address (R20), is one step that executes what the descriptor or control word decodes to (R103, R108, R110);
that instruction is well-formed. What the step adds is the stored register, the host's program moving on, and the turn. On every other turn too, the step is that agent's step
(R14) on the state with the turn used: the sequencer's, the timer's, the service's, or the host's next operation, of which
WR and RD are the window's write and read (R113), at a bus address in the window as at its offset (R20). Past the end of
the schedule the arbiter says whose turn it is (log 1). -/
def Obligations.StepRunsTheWrittenCommand : Prop :=
  (∀ (s : State) (v : Word) (rest : List HostOp) (turns : List Turn), s.sched = .host :: turns →
    ((s.host = .wr 0x04 v :: rest ∨ s.host = .busWr (windowAddr s.platform 0x04) v :: rest) → gfxBusy s = false →
      (decodeDescriptor (v ++ s.cmdLo)).wellFormed = true ∧
      step s = exec (decodeDescriptor (v ++ s.cmdLo))
        { s with cmdHi := v, host := rest, sched := turns, turn := s.turn + 1 }) ∧
    ((s.host = .wr 0x40 v :: rest ∨ s.host = .busWr (windowAddr s.platform 0x40) v :: rest) →
      (decodeControl v).wellFormed = true ∧
      step s = exec (decodeControl v) { s with host := rest, sched := turns, turn := s.turn + 1 })) ∧
  (∀ (s : State) (turns : List Turn),
    (s.sched = .raster :: turns → step s = rasterStep { s with sched := turns, turn := s.turn + 1 }) ∧
    (s.sched = .timer :: turns → step s = .next (timerCycle { s with sched := turns, turn := s.turn + 1 })) ∧
    (s.sched = .service :: turns → step s = serviceStep { s with sched := turns, turn := s.turn + 1 }) ∧
    (s.sched = .host :: turns →
      (s.host = [] → step s = .next { s with sched := turns, turn := s.turn + 1 }) ∧
      ∀ (op : HostOp) (rest : List HostOp), s.host = op :: rest →
        step s = hostOp op { s with host := rest, sched := turns, turn := s.turn + 1 }) ∧
    (s.sched = [] → step s = turnStep (Config.arbiter s.turn) { s with turn := s.turn + 1 })) ∧
  ∀ (s : State) (off : BitVec 8) (v : Word),
    hostOp (.wr off v) s = hostWrite off v s ∧ hostOp (.rd off) s = hostRead off s ∧
    hostOp (.busWr (windowAddr s.platform off) v) s = hostWrite off v s ∧
    hostOp (.busRd (windowAddr s.platform off)) s = hostRead off s

/-- The table word of an instruction, placed by `State.withFetchWord`, is what the very next step runs (log 2). -/
def Obligations.FetchedWordRuns : Prop :=
  ∀ (s : State) (nbits w : Nat) (i : Instr), decodeTableWord nbits w = some i →
    (nbits ≤ 32 → step (s.withFetchWord nbits w) = exec i { s with turn := s.turn + 1 }) ∧
    (32 < nbits → step (s.withFetchWord nbits w) = exec i
      { s with
        cmdLo := BitVec.ofNat 32 w
        cmdHi := BitVec.ofNat 32 (w / 2 ^ 32)
        seq := .idle
        turn := s.turn + 1 })

/-! ## The raster commands: launch, run and result -/

/-- R141: OP = 0 is NOP whatever the other fields hold; its launch latches the descriptor and does nothing else, and the
sequencer, still Idle, has nothing to do after it. -/
def Obligations.NopDoesNothing : Prop :=
  (∀ d : Descriptor, fieldOp d = 0x0 → decodeDescriptor d = .nop) ∧
  ∀ s : State, gfxBusy s = false →
    exec .nop s = .next { s with latched := s.cmdHi ++ s.cmdLo } ∧
    ∀ n : Nat, rasterRun n { s with latched := s.cmdHi ++ s.cmdLo } = .next { s with latched := s.cmdHi ++ s.cmdLo }

/-- R139 and R140: LCMD and LDAT emit one frame, of tag 0 and of tag 1, with the byte as payload; BUSY is 1 from the launch
until after the frame. -/
def Obligations.LinkCommandsEmitOneFrame : Prop :=
  (∀ d : Descriptor, fieldOp d = 0x1 → decodeDescriptor d = .lcmd (fieldA d)) ∧
  (∀ d : Descriptor, fieldOp d = 0x2 → decodeDescriptor d = .ldat (fieldA d)) ∧
  ∀ (s : State) (b : Byte), gfxBusy s = false → LinkIdle s →
    exec (.lcmd b) s = .next (launched (.lcmd b) s) ∧ gfxBusy (launched (.lcmd b) s) = true ∧
    rasterRun 1 (launched (.lcmd b) s) =
      .next { launched .finish s with frames := s.frames ++ [0#1 ++ b] } ∧
    rasterRun 2 (launched (.lcmd b) s) = .next (drawn [0#1 ++ b] s) ∧
    exec (.ldat b) s = .next (launched (.ldat b) s) ∧ gfxBusy (launched (.ldat b) s) = true ∧
    rasterRun 1 (launched (.ldat b) s) =
      .next { launched .finish s with frames := s.frames ++ [1#1 ++ b] } ∧
    rasterRun 2 (launched (.ldat b) s) = .next (drawn [1#1 ++ b] s)

/-- R150, R151: PIXEL in range emits the ten frames of its 1x1 window and pair, and completes. -/
def Obligations.PixelEmitsTenFrames : Prop :=
  ∀ (s : State) (x y : Nat) (c : Colour), gfxBusy s = false → LinkIdle s → x ≤ 131 → y ≤ 131 →
    exec (.pixel x y c) s = .next (launched (.pixel x y c) s) ∧
    rasterRun 11 (launched (.pixel x y c) s) = .next (drawn
      [0#1 ++ s.gfxOpc.extractLsb' 0 8, 1#1 ++ BitVec.ofNat 8 x, 1#1 ++ BitVec.ofNat 8 x,
       0#1 ++ s.gfxOpc.extractLsb' 8 8, 1#1 ++ BitVec.ofNat 8 y, 1#1 ++ BitVec.ofNat 8 y,
       0#1 ++ s.gfxOpc.extractLsb' 16 8,
       1#1 ++ c.extractLsb' 4 8, 1#1 ++ (c.extractLsb' 0 4 ++ c.extractLsb' 8 4), 1#1 ++ c.extractLsb' 0 8] s)

/-- R153: LINE in range emits one Pixel for each point of LinePoints, in order, and completes. -/
def Obligations.LineDrawsItsPoints : Prop :=
  ∀ (s : State) (x0 y0 x1 y1 : Nat) (c : Colour), gfxBusy s = false → LinkIdle s →
    x0 ≤ 131 → y0 ≤ 131 → x1 ≤ 131 → y1 ≤ 131 →
    exec (.line x0 y0 x1 y1 c) s = .next (launched (.line x0 y0 x1 y1 c) s) ∧
    rasterRun (10 * (linePoints x0 y0 x1 y1).length + 1) (launched (.line x0 y0 x1 y1 c) s) =
      .next (drawn ((linePoints x0 y0 x1 y1).flatMap fun p => pixelFrames s.gfxOpc p c) s)

/-- R158: RECT in range draws the four line bodies of its corners, in the rule's order, and completes. -/
def Obligations.RectDrawsFourSegments : Prop :=
  ∀ (s : State) (x0 y0 x1 y1 : Nat) (c : Colour), gfxBusy s = false → LinkIdle s →
    x0 ≤ 131 → y0 ≤ 131 → x1 ≤ 131 → y1 ≤ 131 →
    exec (.rect x0 y0 x1 y1 c) s = .next (launched (.rect x0 y0 x1 y1 c) s) ∧
    ∃ n, rasterRun n (launched (.rect x0 y0 x1 y1 c) s) =
      .next (drawn ((linePoints x0 y0 x1 y0 ++ linePoints x0 y1 x1 y1 ++ linePoints x0 y0 x0 y1 ++
        linePoints x1 y0 x1 y1).flatMap fun p => pixelFrames s.gfxOpc p c) s)

/-- R155 to R157: RECTF in range programs one window over its box and streams ceil(area / 2) + 130 pairs of its colour, and
completes. -/
def Obligations.RectfStreamsItsBox : Prop :=
  ∀ (s : State) (x0 y0 x1 y1 : Nat) (c : Colour), gfxBusy s = false → LinkIdle s →
    x0 ≤ 131 → y0 ≤ 131 → x1 ≤ 131 → y1 ≤ 131 →
    exec (.rectf x0 y0 x1 y1 c) s = .next (launched (.rectf x0 y0 x1 y1 c) s) ∧
    ∃ n, rasterRun n (launched (.rectf x0 y0 x1 y1 c) s) =
      .next (drawn
        (windowFrames s.gfxOpc (min x0 x1 : Nat) (max x0 x1 : Nat) (min y0 y1 : Nat) (max y0 y1 : Nat) ++
          (List.replicate
            (((max x0 x1 - min x0 x1 + 1) * (max y0 y1 - min y0 y1 + 1) + 1) / 2 + 130)
            (pairFrames c c)).flatten) s)

/-- R161: CIRCLE in range emits one Pixel for each point of CirclePoints, in order, and completes. -/
def Obligations.CircleDrawsItsPoints : Prop :=
  ∀ (s : State) (x0 y0 r : Nat) (c : Colour), gfxBusy s = false → LinkIdle s →
    r ≤ x0 → r ≤ y0 → x0 + r ≤ 131 → y0 + r ≤ 131 →
    exec (.circle x0 y0 r c) s = .next (launched (.circle x0 y0 r c) s) ∧
    rasterRun (10 * (circlePoints x0 y0 r).length + 1) (launched (.circle x0 y0 r c) s) =
      .next (drawn ((circlePoints x0 y0 r).flatMap fun p => pixelFrames s.gfxOpc p c) s)

/-- R163 to R165: CLEAR programs the full-panel window and streams 8712 white pairs, 26143 frames, and completes. -/
def Obligations.ClearStreamsWhitePairs : Prop :=
  ∀ s : State, gfxBusy s = false → LinkIdle s →
    exec .clear s = .next (launched .clear s) ∧
    rasterRun 26144 (launched .clear s) =
      .next (drawn (windowFrames s.gfxOpc 0 131 0 131 ++ (List.replicate 8712 (pairFrames 0xFFF 0xFFF)).flatten) s)

/-- R182 to R188: CHAR with valid operands and a valid header, every byte readable, reads the header and then each row's
byte, emits the glyph's window and each row's pairs, and completes. -/
def Obligations.CharDrawsItsGlyph : Prop :=
  ∀ (s : State) (x y code : Nat) (size : BitVec 2) (fg bg : Colour) (base : Word) (cols rows stride : Byte)
    (bits : Nat → Byte),
    gfxBusy s = false → LinkIdle s → x ≤ 131 → y ≤ 131 → size ≠ 3 →
    base = (if size = 0 then s.font0 else if size = 1 then s.font1 else s.font2) →
    0x20 ≤ code → code ≤ 0x7F →
    memRead1 s base = .value cols → memRead1 s (base + 1) = .value rows → memRead1 s (base + 2) = .value stride →
    cols.toNat ∈ [2, 4, 6, 8] → 1 ≤ rows.toNat → rows.toNat ≤ stride.toNat →
    x + rows.toNat ≤ 132 → y + cols.toNat ≤ 132 →
    (∀ k, k < rows.toNat → memRead1 s (base + BitVec.ofNat 32 (stride.toNat * (code - 0x1F) + (stride.toNat - 1 - k))) =
      .value (bits k)) →
    exec (.char x y code size fg bg) s = .next (launched (.char x y code size fg bg) s) ∧
    ∃ n, rasterRun n (launched (.char x y code size fg bg) s) = .next
      { s with
        latched := s.cmdHi ++ s.cmdLo
        seq := .idle
        frames := s.frames ++
          (windowFrames s.gfxOpc x (x + rows.toNat - 1 : Nat) y (y + cols.toNat - 1 : Nat) ++
            (List.range rows.toNat).flatMap fun k => (List.range (cols.toNat / 2)).flatMap fun j =>
              pairFrames (if (bits k).getLsbD (7 - 2 * j) then fg else bg)
                (if (bits k).getLsbD (7 - (2 * j + 1)) then fg else bg))
        gfxReads := s.gfxReads ++ ([base, base + 1, base + 2] ++
          (List.range rows.toNat).map fun k =>
            base + BitVec.ofNat 32 (stride.toNat * (code - 0x1F) + (stride.toNat - 1 - k))) }

/-- R189 to R194: STRING draws each of its m characters with DrawGlyph at a column one pitch after the last, reading each
character just before it is drawn, and ends at a 0x00 byte, or once the column passes 131 without reading further. The
empty string is m = 0. `refGlyph` is DrawGlyph (R187). -/
def Obligations.StringDrawsItsCharacters : Prop :=
  ∀ (s : State) (x y : Nat) (size : BitVec 2) (fg bg : Colour) (m : Nat) (ch : Nat → Byte) (glyph : Nat → BodyRun),
    gfxBusy s = false → LinkIdle s → x ≤ 131 → y ≤ 131 →
    (∀ k, k < m → y + k * (if size = 0 then 6 else 8) ≤ 131 ∧ ch k ≠ 0 ∧
      memRead1 s (s.strPtr + BitVec.ofNat 32 k) = .value (ch k) ∧ (glyph k).result = .done ∧
      glyph k = refGlyph s
        { x := x, y := (y + k * (if size = 0 then 6 else 8) : Nat), code := (ch k).toNat, size := size, fg := fg, bg := bg,
          index := none } refDone) →
    (y + m * (if size = 0 then 6 else 8) ≤ 131 → memRead1 s (s.strPtr + BitVec.ofNat 32 m) = .value 0) →
    exec (.string x y size fg bg) s = .next (launched (.string x y size fg bg) s) ∧
    ∃ n, rasterRun n (launched (.string x y size fg bg) s) = .next
      { s with
        latched := s.cmdHi ++ s.cmdLo
        seq := .idle
        frames := s.frames ++ (List.range m).flatMap fun k => (glyph k).frames
        gfxReads := s.gfxReads ++
          (((List.range m).flatMap fun k => (s.strPtr + BitVec.ofNat 32 k) :: (glyph k).reads) ++
            if y + m * (if size = 0 then 6 else 8) ≤ 131 then [s.strPtr + BitVec.ofNat 32 m] else []) }

/-- R232, R234: an operand out of range ends PIXEL, LINE, RECT, RECTF, CIRCLE, CHAR or STRING with error 3, before any frame
or read; nothing but the error record, BUSY and the latched descriptor changes. That the check and the error are one step of
the sequencer, after the launch, is the model's granularity (log 8). -/
def Obligations.RangeErrorsEmitNothing : Prop :=
  ∀ (s : State) (c bg : Colour) (size : BitVec 2) (x y x1 y1 r code : Nat), gfxBusy s = false →
    (131 < x ∨ 131 < y →
      rasterRun 1 (launched (.pixel x y c) s) = .next (refusedWith .range [] s) ∧
      rasterRun 1 (launched (.char x y code size c bg) s) = .next (refusedWith .range [] s) ∧
      rasterRun 1 (launched (.string x y size c bg) s) = .next (refusedWith .range [] s)) ∧
    (131 < x ∨ 131 < y ∨ 131 < x1 ∨ 131 < y1 →
      rasterRun 1 (launched (.line x y x1 y1 c) s) = .next (refusedWith .range [] s) ∧
      rasterRun 1 (launched (.rect x y x1 y1 c) s) = .next (refusedWith .range [] s) ∧
      rasterRun 1 (launched (.rectf x y x1 y1 c) s) = .next (refusedWith .range [] s)) ∧
    (x < r ∨ y < r ∨ 131 < x + r ∨ 131 < y + r →
      rasterRun 1 (launched (.circle x y r c) s) = .next (refusedWith .range [] s))

/-- R233: CHAR in range, and each character of STRING (R193, R232), reports SIZE, then the code, then the header, then the
glyph's window; an invalid size or code reads no glyph memory, and the refused character emits no frame. STRING keeps what
it has drawn: after m characters that DrawGlyph (`refGlyph`, R187) completes, at columns one pitch apart, the character m
that fails a check ends it, with exactly the frames and reads of the m characters, the read of the m-th, and the header's
if it was reached. With SIZE = 3 no character completes, so m = 0: a non-empty string. How many steps it takes, the error
being raised by a step of its own after the last read, is the model's granularity (log 8). -/
def Obligations.CharReportsItsFirstFailingCheck : Prop :=
  (∀ (s : State) (x y code : Nat) (size : BitVec 2) (fg bg : Colour) (cols rows stride : Byte),
    gfxBusy s = false → x ≤ 131 → y ≤ 131 →
    (size = 3 → rasterRun 1 (launched (.char x y code size fg bg) s) = .next (refusedWith .size [] s)) ∧
    (size ≠ 3 → code < 0x20 ∨ 0x7F < code →
      rasterRun 1 (launched (.char x y code size fg bg) s) = .next (refusedWith .glyph [] s)) ∧
    (size ≠ 3 → 0x20 ≤ code → code ≤ 0x7F →
      memRead1 s (fontBase s size) = .value cols → memRead1 s (fontBase s size + 1) = .value rows →
      memRead1 s (fontBase s size + 2) = .value stride →
      (cols.toNat ∉ [2, 4, 6, 8] ∨ rows = 0 ∨ stride.toNat < rows.toNat →
        rasterRun 4 (launched (.char x y code size fg bg) s) =
          .next (refusedWith .glyph [fontBase s size, fontBase s size + 1, fontBase s size + 2] s)) ∧
      (cols.toNat ∈ [2, 4, 6, 8] → rows ≠ 0 → rows.toNat ≤ stride.toNat →
        131 < x + rows.toNat - 1 ∨ 131 < y + cols.toNat - 1 →
        rasterRun 4 (launched (.char x y code size fg bg) s) =
          .next (refusedWith .range [fontBase s size, fontBase s size + 1, fontBase s size + 2] s)))) ∧
  ∀ (s : State) (x y m : Nat) (size : BitVec 2) (fg bg : Colour) (ch : Nat → Byte) (glyph : Nat → BodyRun)
    (cols rows stride : Byte) (fs : List Frame) (reads : List Word),
    gfxBusy s = false → LinkIdle s → x ≤ 131 → y ≤ 131 →
    (∀ k, k < m → ch k ≠ 0 ∧ (glyph k).result = .done ∧
      glyph k = refGlyph s
        { x := x, y := (y + k * (if size = 0 then 6 else 8) : Nat), code := (ch k).toNat, size := size, fg := fg, bg := bg,
          index := none } refDone) →
    (∀ k, k ≤ m → memRead1 s (s.strPtr + BitVec.ofNat 32 k) = .value (ch k)) →
    y + m * (if size = 0 then 6 else 8) ≤ 131 → ch m ≠ 0 →
    fs = (List.range m).flatMap (fun k => (glyph k).frames) →
    reads = (List.range m).flatMap (fun k => (s.strPtr + BitVec.ofNat 32 k) :: (glyph k).reads) ++
      [s.strPtr + BitVec.ofNat 32 m] →
    (size = 3 →
      ∃ n, rasterRun n (launched (.string x y size fg bg) s) = .next (refusedAfter .size fs reads s)) ∧
    (size ≠ 3 → (ch m).toNat < 0x20 ∨ 0x7F < (ch m).toNat →
      ∃ n, rasterRun n (launched (.string x y size fg bg) s) = .next (refusedAfter .glyph fs reads s)) ∧
    (size ≠ 3 → 0x20 ≤ (ch m).toNat → (ch m).toNat ≤ 0x7F →
      memRead1 s (fontBase s size) = .value cols → memRead1 s (fontBase s size + 1) = .value rows →
      memRead1 s (fontBase s size + 2) = .value stride →
      (cols.toNat ∉ [2, 4, 6, 8] ∨ rows = 0 ∨ stride.toNat < rows.toNat →
        ∃ n, rasterRun n (launched (.string x y size fg bg) s) = .next
          (refusedAfter .glyph fs (reads ++ [fontBase s size, fontBase s size + 1, fontBase s size + 2]) s)) ∧
      (cols.toNat ∈ [2, 4, 6, 8] → rows ≠ 0 → rows.toNat ≤ stride.toNat →
        131 < x + rows.toNat - 1 ∨ 131 < y + m * (if size = 0 then 6 else 8) + cols.toNat - 1 →
        ∃ n, rasterRun n (launched (.string x y size fg bg) s) = .next
          (refusedAfter .range fs (reads ++ [fontBase s size, fontBase s size + 1, fontBase s size + 2]) s)))

/-- R106: OP = 0xA to 0xF; launching one executes nothing, emits no frame, leaves BUSY at 0 and records error 2; the only
descriptors that decode to NOP have OP = 0. -/
def Obligations.ReservedOpcodesAreIllegal : Prop :=
  (∀ d : Descriptor, 0xA ≤ (fieldOp d).toNat → decodeDescriptor d ∈
    [Instr.reservedA, .reservedB, .reservedC, .reservedD, .reservedE, .reservedF]) ∧
  (∀ d : Descriptor, decodeDescriptor d = .nop ↔ fieldOp d = 0x0) ∧
  ∀ s : State, gfxBusy s = false →
    exec .reservedA s = .next { s with latched := s.cmdHi ++ s.cmdLo, gfxErr := some (s.gfxErr.getD .illegal) } ∧
    exec .reservedB s = .next { s with latched := s.cmdHi ++ s.cmdLo, gfxErr := some (s.gfxErr.getD .illegal) } ∧
    exec .reservedC s = .next { s with latched := s.cmdHi ++ s.cmdLo, gfxErr := some (s.gfxErr.getD .illegal) } ∧
    exec .reservedD s = .next { s with latched := s.cmdHi ++ s.cmdLo, gfxErr := some (s.gfxErr.getD .illegal) } ∧
    exec .reservedE s = .next { s with latched := s.cmdHi ++ s.cmdLo, gfxErr := some (s.gfxErr.getD .illegal) } ∧
    exec .reservedF s = .next { s with latched := s.cmdHi ++ s.cmdLo, gfxErr := some (s.gfxErr.getD .illegal) }

/-- Every raster command with a body is accepted where BUSY = 0, whatever its operands and whatever memory holds: the
launching write answers a next state (R108). The sequencer's interleavable steps then do what the command rules' pseudocode
says: run alone, a command whose body ends (completes, or raises an error) has emitted exactly the body's frames and made exactly its reads,
in order, one a step, and BUSY is 0 again (R14, R49, R81, R108). The one step more, for the completion or for raising the
error after the last frame or read, is the model's granularity (log 8). -/
def Obligations.SequencerRefinesThePseudocode : Prop :=
  ∀ (i : Instr) (c : Ctl) (s : State), bodyOf i = some c → gfxBusy s = false →
    exec i s = .next (launched c s) ∧
    (LinkIdle s → ((refBody i s).result = .done ∨ ∃ e, (refBody i s).result = .error e) →
      rasterRun ((refBody i s).frames.length + (refBody i s).reads.length + 1) (launched c s) =
        .next (bodyEffect (refBody i s) s))

/-! ## The audio operations -/

/-- R110, R235: AUD_CTRL with OP = 0 is no operation, in every state, and no error. -/
def Obligations.AudioNoOperationDoesNothing : Prop :=
  ∀ (s : State) (w : Word), w.extractLsb' 0 2 = 0 →
    decodeControl w = .audNop ∧ exec .audNop s = .next s ∧ hostWrite 0x40 w s = .next s

/-- R206: ARM is refused with error 2 while Streaming; otherwise it arms the engine, enables the DAC output and clears the
timer, and changes nothing else. -/
def Obligations.ArmConfiguresTheEngine : Prop :=
  ∀ (s : State) (w : Word), w.extractLsb' 0 2 = 1 →
    hostWrite 0x40 w s = exec .arm s ∧
    (s.audState = .streaming → exec .arm s = .next { s with audErr := some (s.audErr.getD .busy) }) ∧
    (s.audState ≠ .streaming → exec .arm s = .next
      { s with audState := .armed, dacEn := true, tmrTc := 0, tmrPc := 0, mr0 := false })

/-- R207: PLAY makes its four checks in order; past them it clears the timer and DONE and starts Streaming, and nothing else
changes. -/
def Obligations.PlayChecksThenStarts : Prop :=
  ∀ (s : State) (w : Word), w.extractLsb' 0 2 = 2 →
    hostWrite 0x40 w s = exec .play s ∧
    (s.audState = .idle → exec .play s = .next { s with audErr := some (s.audErr.getD .notArmed) }) ∧
    (s.audState = .streaming → exec .play s = .next { s with audErr := some (s.audErr.getD .busy) }) ∧
    (s.audState = .armed → s.audCnt = 0 → exec .play s = .next { s with audErr := some (s.audErr.getD .zeroCount) }) ∧
    (s.audState = .armed → s.audCnt ≠ 0 → s.audPtr.getLsbD 0 = true →
      exec .play s = .next { s with audErr := some (s.audErr.getD .align) }) ∧
    (s.audState = .armed → s.audCnt ≠ 0 → s.audPtr.getLsbD 0 = false →
      exec .play s = .next { s with audState := .streaming, done := false, tmrTc := 0, tmrPc := 0, mr0 := false })

/-- R208: STOP takes a Streaming engine back to Armed, stops and clears the timer and discards a pending tick; otherwise it
has no effect. -/
def Obligations.StopReturnsToArmed : Prop :=
  ∀ (s : State) (w : Word), w.extractLsb' 0 2 = 3 →
    hostWrite 0x40 w s = exec .stop s ∧
    (s.audState = .streaming → exec .stop s = .next { s with audState := .armed, tmrTc := 0, tmrPc := 0, mr0 := false }) ∧
    (s.audState ≠ .streaming → exec .stop s = .next s)

/-- R201: the timer counts one PCLK cycle by the rule's pseudocode, only while Streaming; from cleared counters it ticks
exactly at the end of every cycle that is a multiple of (TMR_PR + 1) * (TMR_MR + 1). -/
def Obligations.TimerTicksOncePerPeriod : Prop :=
  ∀ s : State,
    (s.audState ≠ .streaming → timerCycle s = s) ∧
    (s.audState = .streaming → timerCycle s =
      if s.tmrPc = s.tmrPr then
        if s.tmrTc = s.tmrMr then { s with tmrPc := 0, tmrTc := 0, mr0 := true }
        else { s with tmrPc := 0, tmrTc := s.tmrTc + 1 }
      else { s with tmrPc := s.tmrPc + 1 }) ∧
    (s.audState = .streaming → s.tmrPc = 0 → s.tmrTc = 0 → ∀ n : Nat,
      timerRun n s =
        { s with
          tmrPc := BitVec.ofNat 32 (n % (s.tmrPr.toNat + 1))
          tmrTc := BitVec.ofNat 32 (n / (s.tmrPr.toNat + 1) % (s.tmrMr.toNat + 1))
          mr0 := s.mr0 || decide ((s.tmrPr.toNat + 1) * (s.tmrMr.toNat + 1) ≤ n) } ∧
      (timerCycle { timerRun n s with mr0 := false }).mr0 =
        decide ((n + 1) % ((s.tmrPr.toNat + 1) * (s.tmrMr.toNat + 1)) = 0))

/-- R202: a tick sets MR0; a tick while MR0 is 1 leaves no trace. -/
def Obligations.LostTickLeavesNoTrace : Prop :=
  ∀ s : State, tick s = { s with mr0 := true } ∧ (s.mr0 = true → tick s = s)

/-- R76: a 2-byte engine read of plain memory is the byte at a + 1 above the byte at a. -/
def Obligations.SamplesAreLittleEndian : Prop :=
  ∀ (s : State) (a : Word), addrKind s.platform a = .plain → addrKind s.platform (a + 1) = .plain →
    memRead2 s a = .value (byteAt s (a + 1) ++ byteAt s a)

/-- R209 to R211: the tick service, enabled exactly when MR0 = 1 and STATE = Streaming, plays one sample in one step, and
with the last one completes the stream; a read the platform does not back leaves the state as it is. A sample one of whose
bytes lies in a device register or in the block's own window is refused (R82; that the window counts as a device is log
5's), and so is such a read of the raster sequencer. The clause on the second byte takes in every AUD_PTR; the window case
of it occurs for an odd one only, which no stream has (R80), because the window is 256-byte aligned. -/
def Obligations.ServicePlaysOneSample : Prop :=
  ∀ s : State,
    (s.mr0 = false ∨ s.audState ≠ .streaming → serviceStep s = .next s) ∧
    (∀ (c : Ctl) (a : Word) (k : Byte → Ctl), s.seq = .running [] c → nextAct c s = .read a k →
      addrKind s.platform a = .device ∨ addrKind s.platform a = .window →
      rasterStep s = .refused (.deviceRead a)) ∧
    (s.mr0 = true → s.audState = .streaming →
      (memRead2 s s.audPtr = .stuck → serviceStep s = .next s) ∧
      (addrKind s.platform s.audPtr = .device ∨ addrKind s.platform s.audPtr = .window →
        serviceStep s = .refused (.deviceRead s.audPtr)) ∧
      (addrKind s.platform s.audPtr = .plain →
        addrKind s.platform (s.audPtr + 1) = .device ∨ addrKind s.platform (s.audPtr + 1) = .window →
        serviceStep s = .refused (.deviceRead (s.audPtr + 1))) ∧
      ∀ v : Half, memRead2 s s.audPtr = .value v →
        ((v.setWidth 32) <<< 6).extractLsb' 0 6 = 0#6 ∧ ((v.setWidth 32 : Word) <<< 6).extractLsb' 22 10 = 0#10 ∧
        (s.audCnt ≠ 1 → serviceStep s = .next
          { s with
            mr0 := false
            audReads := s.audReads ++ [s.audPtr]
            dacData := (v.setWidth 32) <<< 6
            dacHist := s.dacHist ++ [(v.setWidth 32) <<< 6]
            audPtr := s.audPtr + 2
            audCnt := s.audCnt - 1 }) ∧
        (s.audCnt = 1 → serviceStep s = .next
          { s with
            mr0 := false
            audReads := s.audReads ++ [s.audPtr]
            dacData := (v.setWidth 32) <<< 6
            dacHist := s.dacHist ++ [(v.setWidth 32) <<< 6]
            audPtr := 0
            audCnt := 0
            audState := .armed
            tmrTc := 0
            tmrPc := 0
            done := true }))

/-- R212: PLAY with AUD_CNT = N > 0 is followed by exactly N tick services; the k-th reads the sample at the start pointer
+ 2k and writes it shifted by 6 to DAC_DATA, and after the N-th the engine is Armed with DONE set, AUD_CNT = 0 and
AUD_PTR = 0. Between them the engine is Streaming with N - k samples left. `streamRun` alternates one tick with one
service, so R212's "whatever number of ticks is lost", and the other agents' steps, are not in it. -/
def Obligations.StreamPlaysEverySample : Prop :=
  ∀ (s : State) (N : Nat) (buf : Nat → Half), s.audState = .armed → N = s.audCnt.toNat → 0 < N →
    s.audPtr.getLsbD 0 = false →
    (∀ k, k < N → memRead2 s (s.audPtr + BitVec.ofNat 32 (2 * k)) = .value (buf k)) →
    ∃ t, exec .play s = .next t ∧
      (∀ k, k < N → ∃ u, streamRun k t = .next u ∧ u.audState = .streaming ∧ u.audCnt = BitVec.ofNat 32 (N - k)) ∧
      streamRun N t = .next
        { s with
          audState := .armed
          done := true
          audPtr := 0
          audCnt := 0
          tmrTc := 0
          tmrPc := 0
          mr0 := false
          dacData := ((buf (N - 1)).setWidth 32) <<< 6
          dacHist := s.dacHist ++ (List.range N).map fun k => ((buf k).setWidth 32 : Word) <<< 6
          audReads := s.audReads ++ (List.range N).map fun k => s.audPtr + BitVec.ofNat 32 (2 * k) }

/-- R43, R212: while Streaming, no step but reset and the tick service changes AUD_PTR, AUD_CNT, TMR_PR, TMR_MR, DAC_DATA or
its history; the service plays one sample and moves on, or completes. -/
def Obligations.OnlyTheServiceAdvancesAStream : Prop :=
  ∀ s t : State, step s = .next t → s.audState = .streaming → nextTurn s ≠ .reset →
    t.tmrPr = s.tmrPr ∧ t.tmrMr = s.tmrMr ∧
    ((t.audPtr = s.audPtr ∧ t.audCnt = s.audCnt ∧ t.dacData = s.dacData ∧ t.dacHist = s.dacHist) ∨
      (nextTurn s = .service ∧ s.mr0 = true ∧ ∃ v, memRead2 s s.audPtr = .value v ∧ t.mr0 = false ∧
        t.dacData = dacWord v ∧ t.dacHist = s.dacHist ++ [dacWord v] ∧ t.audCnt = s.audCnt - 1 ∧
        ((t.audCnt ≠ 0 ∧ t.audState = .streaming ∧ t.audPtr = s.audPtr + 2) ∨
          (t.audCnt = 0 ∧ t.audState = .armed ∧ t.audPtr = 0 ∧ t.done = true))))

/-- R200, R214: the audio state moves only along the table's transitions: Idle to Armed and Armed to Streaming by the host,
Streaming to Armed by the host or the tick service, and to Idle by reset alone; DACEN, once 1, stays 1 until reset. -/
def Obligations.AudioStateMovesAsTabled : Prop :=
  ∀ s t : State, step s = .next t →
    (t.audState = s.audState ∨
      (nextTurn s = .host ∧ s.audState = .idle ∧ t.audState = .armed) ∨
      (nextTurn s = .host ∧ s.audState = .armed ∧ t.audState = .streaming) ∨
      ((nextTurn s = .host ∨ nextTurn s = .service) ∧ s.audState = .streaming ∧ t.audState = .armed) ∨
      (nextTurn s = .reset ∧ t.audState = .idle)) ∧
    (s.dacEn = true → nextTurn s ≠ .reset → t.dacEn = true)

/-- R213: for every DAC_CODE_LO of at most 22 the converter's code is the ten bits of DAC_DATA from DAC_CODE_LO up (above 22
the field runs past bit 31, log 31). Of a played sample, with DAC_CODE_LO = 6 these are its low 10 bits, with 12 its high
10 bits. -/
def Obligations.ConverterTakesTenBits : Prop :=
  (∀ (s : State) (i : Nat), s.platform.dacCodeLo ≤ 22 → i < 10 →
    (converterCode s).getLsbD i = s.dacData.getLsbD (s.platform.dacCodeLo + i)) ∧
  ∀ (s : State) (v : Half), s.dacData = dacWord v →
    (s.platform.dacCodeLo = 6 → converterCode s = v.extractLsb' 0 10) ∧
    (s.platform.dacCodeLo = 12 → converterCode s = v.extractLsb' 6 10)

/-! ## The register window -/

/-- R31: while BUSY = 1, a host write of a raster configuration register changes no register but the error record, which
takes code 1 if it was empty; the running command is not affected. -/
def Obligations.RasterRegistersFrozenWhileBusy : Prop :=
  ∀ (s : State) (off : BitVec 8) (v : Word), gfxBusy s = true →
    off ∈ [0x00#8, 0x04#8, 0x0C#8, 0x10#8, 0x14#8, 0x18#8, 0x1C#8, 0x20#8] →
    hostWrite off v s = .next { s with gfxErr := some (s.gfxErr.getD .busy) }

/-- R43: while Streaming, a host write of AUD_PTR, AUD_CNT, TMR_PR, TMR_MR or DAC_DATA changes no register but the error
record, which takes code 2 if it was empty. -/
def Obligations.StreamRegistersFrozenWhileStreaming : Prop :=
  ∀ (s : State) (off : BitVec 8) (v : Word), s.audState = .streaming →
    off ∈ [0x48#8, 0x4C#8, 0x50#8, 0x54#8, 0x64#8] →
    hostWrite off v s = .next { s with audErr := some (s.audErr.getD .busy) }

/-- R22, R26 to R30, R35 to R42: an accepted host write stores its value in the register, cut to the register's fields; a
write of a read-only register is ignored; either way nothing else changes. That the latched descriptor does not follow
GFX_CMD_LO is the model's choice (log 26), and so is that a host write of DAC_DATA joins its history (log 19). A read
returns what is stored: the whole register (R22, R23, R26, R27, R35 to R40, R42), GFX_OPC with bits 31..24 as 0 (R28),
LINK_CTRL with its reserved bits as 0 (R29), and 0 for AUD_CTRL (R32). -/
def Obligations.ConfigurationWritesAreStored : Prop :=
  ∀ (s : State) (v : Word),
    (readWindow 0x00 s = s.cmdLo ∧ readWindow 0x04 s = s.cmdHi ∧ readWindow 0x0C s = s.strPtr ∧
      readWindow 0x10 s = s.font0 ∧ readWindow 0x14 s = s.font1 ∧ readWindow 0x18 s = s.font2 ∧
      (readWindow 0x1C s).extractLsb' 0 24 = s.gfxOpc ∧ (readWindow 0x1C s).extractLsb' 24 8 = 0#8 ∧
      (readWindow 0x20 s).getLsbD 0 = s.rstN ∧ (readWindow 0x20 s).extractLsb' 1 7 = 0#7 ∧
      (readWindow 0x20 s).extractLsb' 8 8 = s.clkDiv ∧ (readWindow 0x20 s).extractLsb' 16 16 = 0#16 ∧
      readWindow 0x40 s = 0 ∧ readWindow 0x48 s = s.audPtr ∧ readWindow 0x4C s = s.audCnt ∧
      readWindow 0x50 s = s.tmrPr ∧ readWindow 0x54 s = s.tmrMr ∧ readWindow 0x58 s = s.tmrTc ∧
      readWindow 0x5C s = s.tmrPc ∧ readWindow 0x64 s = s.dacData) ∧
    (gfxBusy s = false →
      hostWrite 0x00 v s = .next { s with cmdLo := v } ∧
      hostWrite 0x0C v s = .next { s with strPtr := v } ∧
      hostWrite 0x10 v s = .next { s with font0 := v } ∧
      hostWrite 0x14 v s = .next { s with font1 := v } ∧
      hostWrite 0x18 v s = .next { s with font2 := v } ∧
      hostWrite 0x1C v s = .next { s with gfxOpc := v.extractLsb' 0 24 } ∧
      hostWrite 0x20 v s = .next { s with rstN := v.getLsbD 0, clkDiv := v.extractLsb' 8 8 }) ∧
    (s.audState ≠ .streaming →
      hostWrite 0x48 v s = .next { s with audPtr := v } ∧
      hostWrite 0x4C v s = .next { s with audCnt := v } ∧
      hostWrite 0x50 v s = .next { s with tmrPr := v } ∧
      hostWrite 0x54 v s = .next { s with tmrMr := v } ∧
      hostWrite 0x64 v s = .next { s with dacData := v, dacHist := s.dacHist ++ [v] }) ∧
    hostWrite 0x24 v s = .next s ∧ hostWrite 0x58 v s = .next s ∧ hostWrite 0x5C v s = .next s ∧
    hostWrite 0x60 v s = .next s

/-- R25 and R34: the write-one-to-clear bits of GFX_STATUS and AUD_STATUS, accepted in every state; no other written bit has
an effect. -/
def Obligations.StatusWritesClear : Prop :=
  ∀ (s : State) (v : Word),
    hostWrite 0x08 v s = .next { s with gfxErr := if v.getLsbD 1 then none else s.gfxErr } ∧
    hostWrite 0x44 v s = .next
      { s with done := if v.getLsbD 2 then false else s.done, audErr := if v.getLsbD 3 then none else s.audErr }

/-- R24, R30, R33, R41 and the codes of R230: what the status registers read as, field by field. -/
def Obligations.StatusWordsShowTheirFields : Prop :=
  ∀ s : State,
    ((readWindow 0x08 s).getLsbD 0 = true ↔ s.seq ≠ .idle) ∧
    (readWindow 0x08 s).getLsbD 1 = s.gfxErr.isSome ∧
    (readWindow 0x08 s).extractLsb' 2 2 = 0#2 ∧
    (readWindow 0x08 s).extractLsb' 4 4 =
      (match s.gfxErr with
        | none => 0#4
        | some .busy => 1#4
        | some .illegal => 2#4
        | some .range => 3#4
        | some .size => 4#4
        | some .glyph => 5#4) ∧
    (readWindow 0x08 s).extractLsb' 8 24 = 0#24 ∧
    (readWindow 0x24 s).getLsbD 0 = s.fBusy ∧ (readWindow 0x24 s).getLsbD 1 = s.csN ∧
    (readWindow 0x24 s).extractLsb' 2 30 = 0#30 ∧
    (readWindow 0x44 s).extractLsb' 0 2 =
      (match s.audState with
        | .idle => 0#2
        | .armed => 1#2
        | .streaming => 2#2) ∧
    (readWindow 0x44 s).getLsbD 2 = s.done ∧ (readWindow 0x44 s).getLsbD 3 = s.audErr.isSome ∧
    (readWindow 0x44 s).extractLsb' 4 4 =
      (match s.audErr with
        | none => 0#4
        | some .notArmed => 1#4
        | some .busy => 2#4
        | some .zeroCount => 3#4
        | some .align => 4#4) ∧
    (readWindow 0x44 s).getLsbD 8 = s.dacEn ∧ (readWindow 0x44 s).extractLsb' 9 23 = 0#23 ∧
    (readWindow 0x60 s).getLsbD 0 = s.mr0 ∧ (readWindow 0x60 s).extractLsb' 1 31 = 0#31

/-- R44: a reserved offset reads 0 and ignores writes, with no error. -/
def Obligations.ReservedOffsetsAreInert : Prop :=
  ∀ (s : State) (off : BitVec 8) (v : Word), off.toNat % 4 = 0 →
    (0x28 ≤ off.toNat ∧ off.toNat ≤ 0x3C ∨ 0x68 ≤ off.toNat) →
    readWindow off s = 0 ∧ hostWrite off v s = .next s

/-- R45: every aligned host read completes with the current value and changes nothing; the trace of what the host read is
the model's own field (log 19). -/
def Obligations.HostReadsHaveNoSideEffect : Prop :=
  ∀ (s : State) (off : BitVec 8), off.toNat % 4 = 0 →
    hostRead off s = .next { s with hostReads := s.hostReads ++ [.register off (readWindow off s)] }

/-- R78: a host access of the window that is not an aligned 32-bit access is refused as unmodelled, byte and halfword writes
that fall in the window, and 32-bit ones at a bus address in it that is no multiple of 4, among them. -/
def Obligations.NonWordAccessIsRefused : Prop :=
  ∀ (s : State) (off : BitVec 8) (v mask : Word) (a : Word) (b : Byte) (h : Half) (bs : List Byte) (hs : List Half),
    hostOp (.narrow off) s = .refused .nonWordAccess ∧
    (off.toNat % 4 ≠ 0 →
      hostOp (.wr off v) s = .refused .nonWordAccess ∧
      hostOp (.rd off) s = .refused .nonWordAccess ∧
      hostOp (.wait off mask v) s = .refused .nonWordAccess) ∧
    (inWindow s.platform a = true →
      hostOp (.mem8 a (b :: bs)) s = .refused .nonWordAccess ∧
      hostOp (.mem16 a (h :: hs)) s = .refused .nonWordAccess ∧
      hostOp (.memRd a) s = .refused .nonWordAccess) ∧
    (inWindow s.platform a = true → a.toNat % 4 ≠ 0 →
      hostOp (.busWr a v) s = .refused .nonWordAccess ∧ hostOp (.busRd a) s = .refused .nonWordAccess)

/-- R113: WAIT reads the register once a step and is over when (read & mask) = value; otherwise it stays the host's next
step. The trace entry is the model's (log 20). -/
def Obligations.WaitRepeatsUntilItMatches : Prop :=
  ∀ (s : State) (off : BitVec 8) (mask value : Word), off.toNat % 4 = 0 →
    (readWindow off s &&& mask = value →
      hostOp (.wait off mask value) s =
        .next { s with hostReads := s.hostReads ++ [.register off (readWindow off s)] }) ∧
    (readWindow off s &&& mask ≠ value →
      hostOp (.wait off mask value) s =
        .next { s with
          hostReads := s.hostReads ++ [.register off (readWindow off s)]
          host := .wait off mask value :: s.host })

/-- R231: each unit keeps the first error since its record was last cleared; a W1C write clears the record. -/
def Obligations.FirstErrorIsKept : Prop :=
  ∀ (s : State) (e : GfxError) (f : AudError),
    (s.gfxErr = none → recordGfx e s = { s with gfxErr := some e }) ∧ (s.gfxErr ≠ none → recordGfx e s = s) ∧
    (s.audErr = none → recordAud f s = { s with audErr := some f }) ∧ (s.audErr ≠ none → recordAud f s = s) ∧
    raiseGfx e s = recordGfx e { s with seq := .idle } ∧ raiseAud f s = recordAud f s ∧
    hostWrite 0x08 2 s = .next { s with gfxErr := none } ∧ hostWrite 0x44 8 s = .next { s with audErr := none }

/-! ## System memory -/

/-- R84, R113: a host byte write is the value every later engine read of that byte returns, and no other byte changes; a
host halfword write is little-endian. MEM8 and MEM16 of several items write the first and leave the rest as the host's next
operation (log 20). A memory read changes nothing but the host's trace (log 19). A 32-bit access outside the window is four
bytes, the lowest first, and an access whose first byte is not backed, or lies in a device, stops (log 7), as a whole
(log 33). Addresses past 0xFFFFFFFF go on at 0 (log 30), and any alignment is admitted (log 32). -/
def Obligations.StoredBytesReadBack : Prop :=
  ∀ (s : State) (a : Word) (b : Byte) (h : Half), s.mem.wf = true → addrKind s.platform a = .plain →
    (∃ t, hostOp (.mem8 a [b]) s = .next t ∧ t = { s with mem := t.mem } ∧ memRead1 t a = .value b ∧
      ∀ c, c ≠ a → byteAt t c = byteAt s c) ∧
    (addrKind s.platform (a + 1) = .plain →
      ∃ t, hostOp (.mem16 a [h]) s = .next t ∧ t = { s with mem := t.mem } ∧ memRead2 t a = .value h ∧
        memRead1 t a = .value (h.extractLsb' 0 8) ∧ memRead1 t (a + 1) = .value (h.extractLsb' 8 8) ∧
        ∀ c, c ≠ a → c ≠ a + 1 → byteAt t c = byteAt s c) ∧
    (∀ (c : Byte) (bs : List Byte) (t : State), hostOp (.mem8 a [b]) s = .next t →
      hostOp (.mem8 a (b :: c :: bs)) s = .next { t with host := .mem8 (a + 1) (c :: bs) :: s.host }) ∧
    (∀ (g : Half) (hs : List Half) (t : State), hostOp (.mem16 a [h]) s = .next t →
      hostOp (.mem16 a (h :: g :: hs)) s = .next { t with host := .mem16 (a + 2) (g :: hs) :: s.host }) ∧
    hostOp (.mem8 a []) s = .next s ∧ hostOp (.mem16 a []) s = .next s ∧
    hostOp (.memRd a) s = .next { s with hostReads := s.hostReads ++ [.memory a (byteAt s a)] } ∧
    (addrKind s.platform (a + 1) = .plain → addrKind s.platform (a + 2) = .plain → addrKind s.platform (a + 3) = .plain →
      hostOp (.busRd a) s = .next
        { s with
          hostReads := s.hostReads ++
            [.memory a (byteAt s a), .memory (a + 1) (byteAt s (a + 1)), .memory (a + 2) (byteAt s (a + 2)),
             .memory (a + 3) (byteAt s (a + 3))] } ∧
      ∀ w : Word, ∃ t, hostOp (.busWr a w) s = .next t ∧ t = { s with mem := t.mem } ∧
        byteAt t a = w.extractLsb' 0 8 ∧ byteAt t (a + 1) = w.extractLsb' 8 8 ∧
        byteAt t (a + 2) = w.extractLsb' 16 8 ∧ byteAt t (a + 3) = w.extractLsb' 24 8 ∧
        ∀ c, c ≠ a → c ≠ a + 1 → c ≠ a + 2 → c ≠ a + 3 → byteAt t c = byteAt s c) ∧
    ∀ (d w : Word) (bs : List Byte) (hs : List Half),
      (addrKind s.platform d = .unbacked →
        hostOp (.mem8 d (b :: bs)) s = .fault (.hostUnbacked d) ∧
        hostOp (.mem16 d (h :: hs)) s = .fault (.hostUnbacked d) ∧ hostOp (.memRd d) s = .fault (.hostUnbacked d) ∧
        hostOp (.busWr d w) s = .fault (.hostUnbacked d) ∧ hostOp (.busRd d) s = .fault (.hostUnbacked d)) ∧
      (addrKind s.platform d = .device →
        hostOp (.mem8 d (b :: bs)) s = .refused (.deviceAccess d) ∧
        hostOp (.mem16 d (h :: hs)) s = .refused (.deviceAccess d) ∧
        hostOp (.memRd d) s = .refused (.deviceAccess d) ∧
        hostOp (.busWr d w) s = .refused (.deviceAccess d) ∧ hostOp (.busRd d) s = .refused (.deviceAccess d))

/-- R71, R81: no step of an engine, no command, no audio operation and no register write changes system memory or the
platform; an instruction changes only its own unit's state (R247), whatever it is. -/
def Obligations.InstructionsTouchTheirOwnUnit : Prop :=
  (∀ (a : Turn) (s t : State), a ≠ .host → turnStep a s = .next t → t.mem = s.mem ∧ t.platform = s.platform) ∧
  (∀ (off : BitVec 8) (v : Word) (s t : State), hostWrite off v s = .next t → t.mem = s.mem ∧ t.platform = s.platform) ∧
  ∀ (i : Instr) (s t : State), exec i s = .next t →
    (i ∈ [Instr.audNop, .arm, .play, .stop] →
      t = { s with
        audState := t.audState, done := t.done, audErr := t.audErr, dacEn := t.dacEn, tmrTc := t.tmrTc, tmrPc := t.tmrPc,
        mr0 := t.mr0 }) ∧
    (i ∉ [Instr.audNop, .arm, .play, .stop] →
      t = { s with latched := t.latched, seq := t.seq, gfxErr := t.gfxErr })

/-! ## Whole-machine rules -/

/-- R240, R278: a raster step and an audio step enabled together give the same state in either order. The service and a
host STOP or PLAY do not commute, and each order gives what R240 lists: STOP first discards the tick, and the service first
gives one more sample, if its read is backed, and then Armed; PLAY first records error 2, if the record is empty (R231), and
leaves the service as it was; a completing service first gives Armed, and then the new stream starts once its count and an
even pointer are written. That a PLAY without a new count is error 3 there (R207, R211, R233) is log 28's. -/
def Obligations.EngineStepsCommute : Prop :=
  (∀ (a : Turn) (s t u : State), a = .timer ∨ a = .service → rasterStep s = .next t → turnStep a s = .next u →
    ∃ v, turnStep a t = .next v ∧ rasterStep u = .next v) ∧
  ∀ s : State, s.audState = .streaming → s.mr0 = true →
    (∃ t, exec .stop s = .next t ∧ t.audState = .armed ∧ t.mr0 = false ∧ t.dacHist = s.dacHist ∧ serviceStep t = .next t) ∧
    (∀ u, serviceStep s = .next u →
      (∀ sample : Half, memRead2 s s.audPtr = .value sample → u.dacHist = s.dacHist ++ [dacWord sample]) ∧
      exec .stop u = .next { u with audState := .armed, tmrTc := 0, tmrPc := 0, mr0 := false }) ∧
    (∃ t, exec .play s = .next t ∧ t = { s with audErr := some (s.audErr.getD .busy) } ∧
      ∀ u, serviceStep s = .next u → serviceStep t = .next { u with audErr := t.audErr }) ∧
    ∀ u, s.audCnt = 1 → serviceStep s = .next u → u.mr0 = false →
      u.audState = .armed ∧
      exec .play u = .next { u with audErr := some (u.audErr.getD .zeroCount) } ∧
      ∀ p n : Word, p.getLsbD 0 = false → n ≠ 0 →
        exec .play { u with audPtr := p, audCnt := n } =
          .next { u with audPtr := p, audCnt := n, audState := .streaming, done := false }

/-- R88, R136: a step adds at most one frame, at the end of the history, and only the sequencer's step does; a step adds at
most one DAC_DATA value, and only the host's or the service's does. Reset alone empties the histories. -/
def Obligations.HistoriesOnlyGrow : Prop :=
  ∀ s t : State, step s = .next t → nextTurn s ≠ .reset →
    (t.frames = s.frames ∨ nextTurn s = .raster ∧ ∃ f, t.frames = s.frames ++ [f]) ∧
    (t.dacHist = s.dacHist ∨ (nextTurn s = .host ∨ nextTurn s = .service) ∧ ∃ v, t.dacHist = s.dacHist ++ [v])

/-- R231, R280: a recorded error is never cleared by the block itself: not by an instruction, nor by any agent's step but the
host's writes and reset. -/
def Obligations.RecordedErrorsStay : Prop :=
  (∀ (i : Instr) (s t : State), exec i s = .next t →
    (s.gfxErr ≠ none → t.gfxErr = s.gfxErr) ∧ (s.audErr ≠ none → t.audErr = s.audErr)) ∧
  ∀ s t : State, step s = .next t → nextTurn s ≠ .host → nextTurn s ≠ .reset →
    (s.gfxErr ≠ none → t.gfxErr = s.gfxErr) ∧ t.audErr = s.audErr

/-- R236: a command whose next read is not backed by the platform stays where it is, BUSY = 1, through every step of every
agent until reset. -/
def Obligations.StuckCommandStaysUntilReset : Prop :=
  ∀ (s t : State) (c : Ctl) (a : Word) (k : Byte → Ctl), s.seq = .running [] c → nextAct c s = .read a k →
    addrKind s.platform a = .unbacked → step s = .next t → nextTurn s ≠ .reset →
    t.seq = s.seq ∧ nextAct c t = .read a k ∧ addrKind t.platform a = .unbacked ∧ t.frames = s.frames

/-- R130: the nine bits of a frame go out tag first, then the payload from bit 7 down to bit 0; R131, R136: after the
emission the link is at rest and the frame has joined the history. -/
def Obligations.FrameGoesOutTagFirst : Prop :=
  ∀ (f : Frame) (s : State),
    (∀ n, n < 9 → lineBit (shiftOut n { frame := f, shifted := 0 }) = f.getLsbD (8 - n)) ∧
    (frameOut f s).frames = s.frames ++ [f] ∧ LinkIdle (frameOut f s) ∧
    frameOut f s = { s with csN := true, fBusy := false, inFlight := none, rxWord := none, frames := s.frames ++ [f] }

/-! ## What the commands draw -/

/-- R154: the five properties of LinePoints; and, inferred from R152's recurrence, its closed form: on the normalised
endpoints, with D the distance on the driving axis and d the other, the k-th point is k steps on along the driving axis
and (k * d + D - 1 - D / 2) / D steps (floor divisions) towards the end on the other. With R154's last clause this covers
every order of the endpoints. -/
def Obligations.LinePointsAreBresenham : Prop :=
  ∀ x0 y0 x1 y1 : Int,
    (linePoints x0 y0 x1 y1).length = (max |x1 - x0| |y1 - y0|).toNat + 1 ∧
    ((|y1 - y0| ≤ |x1 - x0| ∧ x0 ≤ x1 ∨ |x1 - x0| < |y1 - y0| ∧ y0 ≤ y1) →
      (linePoints x0 y0 x1 y1).head? = some (x0, y0) ∧ (linePoints x0 y0 x1 y1).getLast? = some (x1, y1)) ∧
    ((|y1 - y0| ≤ |x1 - x0| ∧ x1 < x0 ∨ |x1 - x0| < |y1 - y0| ∧ y1 < y0) →
      (linePoints x0 y0 x1 y1).head? = some (x1, y1) ∧ (linePoints x0 y0 x1 y1).getLast? = some (x0, y0)) ∧
    (∀ (k : Nat) (p q : Point), (linePoints x0 y0 x1 y1)[k]? = some p → (linePoints x0 y0 x1 y1)[k + 1]? = some q →
      (|y1 - y0| ≤ |x1 - x0| → |q.1 - p.1| = 1 ∧ |q.2 - p.2| ≤ 1) ∧
      (|x1 - x0| < |y1 - y0| → |q.2 - p.2| = 1 ∧ |q.1 - p.1| ≤ 1)) ∧
    (∀ p ∈ linePoints x0 y0 x1 y1, min x0 x1 ≤ p.1 ∧ p.1 ≤ max x0 x1 ∧ min y0 y1 ≤ p.2 ∧ p.2 ≤ max y0 y1) ∧
    linePoints x1 y1 x0 y0 = linePoints x0 y0 x1 y1 ∧
    ∀ (k : Nat) (p : Point), (linePoints x0 y0 x1 y1)[k]? = some p →
      (|y1 - y0| ≤ |x1 - x0| → x0 ≤ x1 →
        p.1 = x0 + k ∧
        |p.2 - y0| = (k * |y1 - y0| + |x1 - x0| - 1 - |x1 - x0| / 2) / |x1 - x0| ∧
        (if y0 ≤ y1 then y0 ≤ p.2 else p.2 ≤ y0)) ∧
      (|x1 - x0| < |y1 - y0| → y0 ≤ y1 →
        p.2 = y0 + k ∧
        |p.1 - x0| = (k * |x1 - x0| + |y1 - y0| - 1 - |y1 - y0| / 2) / |y1 - y0| ∧
        (if x0 ≤ x1 then x0 ≤ p.1 else p.1 ≤ x0))

/-- R159: the points RECT draws are exactly those of its box's boundary. -/
def Obligations.RectPointsAreTheBoundary : Prop :=
  ∀ (x0 y0 x1 y1 : Int) (p : Point), p ∈ rectPoints x0 y0 x1 y1 ↔
    min x0 x1 ≤ p.1 ∧ p.1 ≤ max x0 x1 ∧ min y0 y1 ≤ p.2 ∧ p.2 ≤ max y0 y1 ∧
      (p.1 = x0 ∨ p.1 = x1 ∨ p.2 = y0 ∨ p.2 = y1)

/-- R162: the point counts and the distinct point counts of the table, at every centre. -/
def Obligations.CircleCountsMatchTheTable : Prop :=
  ∀ x0 y0 : Int,
    (circlePoints x0 y0 0).length = 4 + 8 * 0 ∧ (circlePoints x0 y0 0).dedup.length = 1 ∧
    (circlePoints x0 y0 1).length = 4 + 8 * 1 ∧ (circlePoints x0 y0 1).dedup.length = 4 ∧
    (circlePoints x0 y0 5).length = 4 + 8 * 4 ∧ (circlePoints x0 y0 5).dedup.length = 28 ∧
    (circlePoints x0 y0 50).length = 4 + 8 * 36 ∧ (circlePoints x0 y0 50).dedup.length = 284

/-- R160, R161: every point of a circle lies in its bounding square, off the circle by at most its larger distance from the
centre (in squares), and the point set has the 8-way symmetry. After n rounds of the loop's updates the working variables
are the functions of u and v that the midpoint algorithm has: u = n, ddF_x = 2u + 1, ddF_y = -2v and
f = (u + 1)^2 + v^2 - v - r^2; and v steps down exactly when f is not negative. -/
def Obligations.CircleIsEightWaySymmetric : Prop :=
  (∀ (x0 y0 r : Int) (n : Nat) (c d : CircleVars), c = circleVarsAt x0 y0 r n → d = circleVarsAt x0 y0 r (n + 1) →
    c.x0 = x0 ∧ c.y0 = y0 ∧ c.u = n ∧ c.ddFx = 2 * c.u + 1 ∧ c.ddFy = -2 * c.v ∧
    c.f = (c.u + 1) ^ 2 + c.v ^ 2 - c.v - r ^ 2 ∧ (n = 0 → c.v = r) ∧ d.v = if 0 ≤ c.f then c.v - 1 else c.v) ∧
  ∀ (x0 y0 : Int) (r : Nat) (p : Point), p ∈ circlePoints x0 y0 r →
    |p.1 - x0| ≤ r ∧ |p.2 - y0| ≤ r ∧
    |(p.1 - x0) ^ 2 + (p.2 - y0) ^ 2 - r ^ 2| ≤ max |p.1 - x0| |p.2 - y0| ∧
    (2 * x0 - p.1, p.2) ∈ circlePoints x0 y0 r ∧ (p.1, 2 * y0 - p.2) ∈ circlePoints x0 y0 r ∧
    (x0 + (p.2 - y0), y0 + (p.1 - x0)) ∈ circlePoints x0 y0 r

/-- R144: how many frames each command emits. CIRCLE's n is the number of loop iterations: the loop's condition u < v holds
before each of the n and no longer after them. STRING's count is the sum over its characters. -/
def Obligations.FrameCountsMatchTheTable : Prop :=
  ∀ (s : State) (c bg : Colour) (b : Byte) (x0 y0 x1 y1 r code : Nat) (size : BitVec 2),
    (refBody .nop s).frames.length = 0 ∧ (refBody (.lcmd b) s).frames.length = 1 ∧
    (refBody (.ldat b) s).frames.length = 1 ∧ (refBody .clear s).frames.length = 26143 ∧
    (x0 ≤ 131 → y0 ≤ 131 → (refBody (.pixel x0 y0 c) s).frames.length = 10) ∧
    (x0 ≤ 131 → y0 ≤ 131 → x1 ≤ 131 → y1 ≤ 131 →
      (refBody (.line x0 y0 x1 y1 c) s).frames.length =
        10 * (max ((x1 : Int) - x0).natAbs ((y1 : Int) - y0).natAbs + 1) ∧
      (refBody (.rectf x0 y0 x1 y1 c) s).frames.length =
        7 + 3 * (((max x0 x1 - min x0 x1 + 1) * (max y0 y1 - min y0 y1 + 1) + 1) / 2 + 130) ∧
      (refBody (.rect x0 y0 x1 y1 c) s).frames.length =
        2 * (10 * (((x1 : Int) - x0).natAbs + 1)) + 2 * (10 * (((y1 : Int) - y0).natAbs + 1))) ∧
    (r ≤ x0 → r ≤ y0 → x0 + r ≤ 131 → y0 + r ≤ 131 →
      ∃ n, n ≤ r ∧ (refBody (.circle x0 y0 r c) s).frames.length = 10 * (4 + 8 * n) ∧
        (∀ j, j < n → (circleVarsAt x0 y0 r j).u < (circleVarsAt x0 y0 r j).v) ∧
        (circleVarsAt x0 y0 r n).v ≤ (circleVarsAt x0 y0 r n).u) ∧
    ∀ cols rows : Byte, memRead1 s (fontBase s size) = .value cols → memRead1 s (fontBase s size + 1) = .value rows →
      (refBody (.char x0 y0 code size c bg) s).result = .done →
      (refBody (.char x0 y0 code size c bg) s).frames.length = 7 + 3 * (rows.toNat * (cols.toNat / 2))

/-! ## Under the reference controller (R90 to R95), as an assumption about the controller -/

/-- R145: the controller's assembly of the three bytes of Pair(c0, c1) gives back c0, then c1. -/
def Obligations.PackedPairsUnpack : Prop :=
  ∀ (opc : BitVec 24) (k : Controller) (c0 c1 : Colour), k.mode = .write → k.phase = 0 →
    ctrlFrames opc k (pairFrames c0 c1) =
      { putPixel c1 (putPixel c0 k) with partialPixel := c1.extractLsb' 8 4 ++ 0#8, phase := 0 }

/-- R150: under the reference controller, with three distinct opcode bytes, Pixel writes its colour to its one pixel and to
no other, whatever the controller held before. -/
def Obligations.PixelPaintsOnePixel : Prop :=
  ∀ (opc : BitVec 24) (k : Controller) (x y : Nat) (c : Colour), opcDistinct opc = true → x ≤ 131 → y ≤ 131 →
    ∀ q : Point, pixelAt (ctrlFrames opc k (pixelFrames opc (x, y) c)) q = if q = (↑x, ↑y) then c else pixelAt k q

/-- R159, the headline of RECTF: launched and run, it leaves every pixel of the bounding box equal to its colour and writes
no pixel outside, under the reference controller in any starting state, for three distinct opcode bytes. -/
def Obligations.FilledRectanglePaintsItsBox : Prop :=
  ∀ (s : State) (k : Controller) (x0 y0 x1 y1 : Nat) (c : Colour), gfxBusy s = false → LinkIdle s →
    opcDistinct s.gfxOpc = true → x0 ≤ 131 → y0 ≤ 131 → x1 ≤ 131 → y1 ≤ 131 →
    exec (.rectf x0 y0 x1 y1 c) s = .next (launched (.rectf x0 y0 x1 y1 c) s) ∧
    ∃ n t fs, rasterRun n (launched (.rectf x0 y0 x1 y1 c) s) = .next t ∧ gfxBusy t = false ∧
      t.frames = s.frames ++ fs ∧
      ∀ q : Point, pixelAt (ctrlFrames s.gfxOpc k fs) q =
        if min (x0 : Int) x1 ≤ q.1 ∧ q.1 ≤ max (x0 : Int) x1 ∧ min (y0 : Int) y1 ≤ q.2 ∧ q.2 ≤ max (y0 : Int) y1 then c
        else pixelAt k q
end

