-- ==== Sys2Proof/Laws/Decode.lean ====
section
/-! SUPPORT. The fields of an assembled descriptor: each is the field it was assembled from (R101, R112). The provers cite
these and unfold neither `mkDescriptor` nor a field. -/

namespace Sys2Proof

section

variable (op : BitVec 4) (size : BitVec 2) (fill : Bool) (bg color : Colour) (e c b a : Byte)

/-- A descriptor's bit, found in the field that holds it. -/
theorem mkDescriptor_getLsbD (j : Nat) : (mkDescriptor op size fill bg color e c b a).getLsbD j =
    if j < 8 then a.getLsbD j
    else if j - 8 < 8 then b.getLsbD (j - 8)
    else if j - 8 - 8 < 8 then c.getLsbD (j - 8 - 8)
    else if j - 8 - 8 - 8 < 8 then e.getLsbD (j - 8 - 8 - 8)
    else if j - 8 - 8 - 8 - 8 < 12 then color.getLsbD (j - 8 - 8 - 8 - 8)
    else if j - 8 - 8 - 8 - 8 - 12 < 12 then bg.getLsbD (j - 8 - 8 - 8 - 8 - 12)
    else if j - 8 - 8 - 8 - 8 - 12 - 12 < 1 then (BitVec.ofBool fill).getLsbD (j - 8 - 8 - 8 - 8 - 12 - 12)
    else if j - 8 - 8 - 8 - 8 - 12 - 12 - 1 < 2 then size.getLsbD (j - 8 - 8 - 8 - 8 - 12 - 12 - 1)
    else if j - 8 - 8 - 8 - 8 - 12 - 12 - 1 - 2 < 1 then false
    else op.getLsbD (j - 8 - 8 - 8 - 8 - 12 - 12 - 1 - 2 - 1) := by
  have h : (mkDescriptor op size fill bg color e c b a).getLsbD j =
      ((op ++ 0#1 ++ size ++ BitVec.ofBool fill ++ bg ++ color ++ e ++ c ++ b ++ a) :
        BitVec (4 + 1 + 2 + 1 + 12 + 12 + 8 + 8 + 8 + 8)).getLsbD j := rfl
  rw [h]
  simp only [BitVec.getLsbD_append, BitVec.getLsbD_zero]

@[simp] theorem fieldA_mkDescriptor : fieldA (mkDescriptor op size fill bg color e c b a) = a := by
  refine BitVec.eq_of_getLsbD_eq fun i hi => ?_
  rw [fieldA, BitVec.getLsbD_extractLsb', mkDescriptor_getLsbD]
  interval_cases i <;> simp

@[simp] theorem fieldB_mkDescriptor : fieldB (mkDescriptor op size fill bg color e c b a) = b := by
  refine BitVec.eq_of_getLsbD_eq fun i hi => ?_
  rw [fieldB, BitVec.getLsbD_extractLsb', mkDescriptor_getLsbD]
  interval_cases i <;> simp

@[simp] theorem fieldC_mkDescriptor : fieldC (mkDescriptor op size fill bg color e c b a) = c := by
  refine BitVec.eq_of_getLsbD_eq fun i hi => ?_
  rw [fieldC, BitVec.getLsbD_extractLsb', mkDescriptor_getLsbD]
  interval_cases i <;> simp

@[simp] theorem fieldE_mkDescriptor : fieldE (mkDescriptor op size fill bg color e c b a) = e := by
  refine BitVec.eq_of_getLsbD_eq fun i hi => ?_
  rw [fieldE, BitVec.getLsbD_extractLsb', mkDescriptor_getLsbD]
  interval_cases i <;> simp

@[simp] theorem fieldColor_mkDescriptor : fieldColor (mkDescriptor op size fill bg color e c b a) = color := by
  refine BitVec.eq_of_getLsbD_eq fun i hi => ?_
  rw [fieldColor, BitVec.getLsbD_extractLsb', mkDescriptor_getLsbD]
  interval_cases i <;> simp

@[simp] theorem fieldBg_mkDescriptor : fieldBg (mkDescriptor op size fill bg color e c b a) = bg := by
  refine BitVec.eq_of_getLsbD_eq fun i hi => ?_
  rw [fieldBg, BitVec.getLsbD_extractLsb', mkDescriptor_getLsbD]
  interval_cases i <;> simp

@[simp] theorem fieldFill_mkDescriptor : fieldFill (mkDescriptor op size fill bg color e c b a) = fill := by
  rw [fieldFill, mkDescriptor_getLsbD]
  simp

@[simp] theorem fieldSize_mkDescriptor : fieldSize (mkDescriptor op size fill bg color e c b a) = size := by
  refine BitVec.eq_of_getLsbD_eq fun i hi => ?_
  rw [fieldSize, BitVec.getLsbD_extractLsb', mkDescriptor_getLsbD]
  interval_cases i <;> simp

@[simp] theorem fieldOp_mkDescriptor : fieldOp (mkDescriptor op size fill bg color e c b a) = op := by
  refine BitVec.eq_of_getLsbD_eq fun i hi => ?_
  rw [fieldOp, BitVec.getLsbD_extractLsb', mkDescriptor_getLsbD]
  interval_cases i <;> simp

end

/-- An operand that fits its field reads back from it (R102). -/
theorem toNat_field8 {n : Nat} (h : fits8 n = true) : (field8 n).toNat = n := by
  have hn : n < 256 := by simpa [fits8] using h
  simp [field8, Nat.mod_eq_of_lt hn]

end Sys2Proof
end

