-- ==== Sys2Proof/Laws/Memory.lean ====
section
/-! SUPPORT. The laws of system memory: a read after a write, and the canonical form, which every memory operation
keeps. -/

namespace Sys2Proof.Machine

/-- Below the first listed address a canonical memory lists nothing. -/
theorem Memory.get_below {lo : Nat} {m : Memory} (h : Memory.wfFrom lo m = true) {x : Nat} (hx : x < lo) :
    m.get x = Memory.unlisted := by
  induction m generalizing lo with
  | nil => rfl
  | cons c m ih =>
    obtain ⟨a, b⟩ := c
    simp only [Memory.wfFrom, Bool.and_eq_true, decide_eq_true_eq] at h
    have hne : x ≠ a := by omega
    simp only [Memory.get, hne, if_false]
    exact ih h.2 (by omega)

/-- A read of the written address gives the written byte. -/
theorem Memory.get_set_same {lo : Nat} {m : Memory} (h : Memory.wfFrom lo m = true) (x : Nat) (v : Byte) :
    (m.set x v).get x = v := by
  induction m generalizing lo with
  | nil => by_cases hv : v = Memory.unlisted <;> simp [Memory.set, Memory.get, hv]
  | cons c m ih =>
    obtain ⟨a, b⟩ := c
    simp only [Memory.wfFrom, Bool.and_eq_true, decide_eq_true_eq] at h
    by_cases hlt : x < a
    · have hne : x ≠ a := by omega
      by_cases hv : v = Memory.unlisted
      · simp [Memory.set, Memory.get, hlt, hv, hne, Memory.get_below h.2 (show x < a + 1 by omega)]
      · simp [Memory.set, Memory.get, hlt, hv]
    · by_cases heq : x = a
      · by_cases hv : v = Memory.unlisted
        · simp [Memory.set, heq, hv, Memory.get_below h.2 (show a < a + 1 by omega)]
        · simp [Memory.set, Memory.get, heq, hv]
      · simp [Memory.set, Memory.get, hlt, heq, ih h.2]

/-- A read of any other address gives what it gave before. -/
theorem Memory.get_set_other {lo : Nat} {m : Memory} (h : Memory.wfFrom lo m = true) {x y : Nat} (v : Byte)
    (hxy : y ≠ x) : (m.set x v).get y = m.get y := by
  induction m generalizing lo with
  | nil => by_cases hv : v = Memory.unlisted <;> simp [Memory.set, Memory.get, hv, hxy]
  | cons c m ih =>
    obtain ⟨a, b⟩ := c
    simp only [Memory.wfFrom, Bool.and_eq_true, decide_eq_true_eq] at h
    by_cases hlt : x < a
    · by_cases hv : v = Memory.unlisted <;> simp [Memory.set, Memory.get, hlt, hv, hxy]
    · by_cases heq : x = a
      · subst heq
        by_cases hv : v = Memory.unlisted <;> simp [Memory.set, Memory.get, hv, hxy]
      · simp [Memory.set, Memory.get, hlt, heq, ih h.2]

/-- A smaller lower bound admits the same memory. -/
theorem Memory.wfFrom_mono {lo lo' : Nat} {m : Memory} (h : Memory.wfFrom lo m = true) (hle : lo' ≤ lo) :
    Memory.wfFrom lo' m = true := by
  cases m with
  | nil => rfl
  | cons c m =>
    obtain ⟨a, b⟩ := c
    simp only [Memory.wfFrom, Bool.and_eq_true, decide_eq_true_eq] at h ⊢
    exact ⟨⟨⟨by omega, h.1.1.2⟩, h.1.2⟩, h.2⟩

/-- A write keeps the canonical form from a bound at or below its address. -/
theorem Memory.set_wfFrom {lo : Nat} {m : Memory} (h : Memory.wfFrom lo m = true) {x : Nat} (v : Byte) (hx : lo ≤ x)
    (hb : x < 2 ^ 32) : Memory.wfFrom lo (m.set x v) = true := by
  induction m generalizing lo with
  | nil =>
    by_cases hv : v = Memory.unlisted
    · simp [Memory.set, hv, Memory.wfFrom]
    · simp only [Memory.set, hv, if_false, Memory.wfFrom, Bool.and_eq_true, decide_eq_true_eq, bne_iff_ne, ne_eq,
        not_false_eq_true, and_true]
      exact ⟨hx, hb⟩
  | cons c m ih =>
    obtain ⟨a, b⟩ := c
    have h' := h
    simp only [Memory.wfFrom, Bool.and_eq_true, decide_eq_true_eq, bne_iff_ne, ne_eq] at h
    by_cases hlt : x < a
    · by_cases hv : v = Memory.unlisted
      · simpa [Memory.set, hlt, hv] using h'
      · simp only [Memory.set, hlt, hv, if_true, if_false, Memory.wfFrom, Bool.and_eq_true, decide_eq_true_eq,
          bne_iff_ne, ne_eq, not_false_eq_true]
        exact ⟨⟨⟨hx, hb⟩, trivial⟩, ⟨⟨by omega, h.1.1.2⟩, h.1.2⟩, h.2⟩
    · by_cases heq : x = a
      · subst heq
        by_cases hv : v = Memory.unlisted
        · simp only [Memory.set, lt_self_iff_false, hv, if_true, if_false]
          exact Memory.wfFrom_mono h.2 (by omega)
        · simp only [Memory.set, lt_self_iff_false, hv, if_true, if_false, Memory.wfFrom, Bool.and_eq_true,
            decide_eq_true_eq, bne_iff_ne, ne_eq, not_false_eq_true]
          exact ⟨⟨⟨hx, hb⟩, trivial⟩, h.2⟩
      · simp only [Memory.set, hlt, heq, if_false, Memory.wfFrom, Bool.and_eq_true, decide_eq_true_eq, bne_iff_ne,
          ne_eq]
        exact ⟨h.1, ih h.2 (by omega)⟩

/-- The one operation that changes memory keeps its canonical form. -/
theorem withByte_wf {s : State} (h : s.mem.wf = true) (a : Word) (b : Byte) : (withByte s a b).mem.wf = true :=
  Memory.set_wfFrom h b (Nat.zero_le _) a.isLt

/-- Memory is canonical right after reset. -/
theorem reset_mem_wf : State.reset.mem.wf = true := rfl

/-- A byte just written reads back. -/
theorem byteAt_withByte_same {s : State} (h : s.mem.wf = true) (a : Word) (b : Byte) :
    byteAt (withByte s a b) a = b := Memory.get_set_same h a.toNat b

/-- Every other byte reads as before. -/
theorem byteAt_withByte_other {s : State} (h : s.mem.wf = true) {a c : Word} (b : Byte) (hne : c ≠ a) :
    byteAt (withByte s a b) c = byteAt s c :=
  Memory.get_set_other h b fun hc => hne (BitVec.eq_of_toNat_eq hc)

end Sys2Proof.Machine
end

