-- ==== Sys2Proof/Laws/State.lean ====
section
/-! SUPPORT. One lemma per field per named update of State, so that no proof unfolds an update; and each update as one
record equation. -/

namespace Sys2Proof.Machine

/-! ## frameOut -/

@[simp] theorem frameOut_cmdLo (f : Frame) (s : State) : (frameOut f s).cmdLo = s.cmdLo := rfl
@[simp] theorem frameOut_cmdHi (f : Frame) (s : State) : (frameOut f s).cmdHi = s.cmdHi := rfl
@[simp] theorem frameOut_gfxErr (f : Frame) (s : State) : (frameOut f s).gfxErr = s.gfxErr := rfl
@[simp] theorem frameOut_strPtr (f : Frame) (s : State) : (frameOut f s).strPtr = s.strPtr := rfl
@[simp] theorem frameOut_font0 (f : Frame) (s : State) : (frameOut f s).font0 = s.font0 := rfl
@[simp] theorem frameOut_font1 (f : Frame) (s : State) : (frameOut f s).font1 = s.font1 := rfl
@[simp] theorem frameOut_font2 (f : Frame) (s : State) : (frameOut f s).font2 = s.font2 := rfl
@[simp] theorem frameOut_gfxOpc (f : Frame) (s : State) : (frameOut f s).gfxOpc = s.gfxOpc := rfl
@[simp] theorem frameOut_rstN (f : Frame) (s : State) : (frameOut f s).rstN = s.rstN := rfl
@[simp] theorem frameOut_clkDiv (f : Frame) (s : State) : (frameOut f s).clkDiv = s.clkDiv := rfl
@[simp] theorem frameOut_fBusy (f : Frame) (s : State) : (frameOut f s).fBusy = false := rfl
@[simp] theorem frameOut_csN (f : Frame) (s : State) : (frameOut f s).csN = true := rfl
@[simp] theorem frameOut_inFlight (f : Frame) (s : State) : (frameOut f s).inFlight = none := rfl
@[simp] theorem frameOut_rxWord (f : Frame) (s : State) : (frameOut f s).rxWord = none := rfl
@[simp] theorem frameOut_latched (f : Frame) (s : State) : (frameOut f s).latched = s.latched := rfl
@[simp] theorem frameOut_seq (f : Frame) (s : State) : (frameOut f s).seq = s.seq := rfl
@[simp] theorem frameOut_audState (f : Frame) (s : State) : (frameOut f s).audState = s.audState := rfl
@[simp] theorem frameOut_done (f : Frame) (s : State) : (frameOut f s).done = s.done := rfl
@[simp] theorem frameOut_audErr (f : Frame) (s : State) : (frameOut f s).audErr = s.audErr := rfl
@[simp] theorem frameOut_dacEn (f : Frame) (s : State) : (frameOut f s).dacEn = s.dacEn := rfl
@[simp] theorem frameOut_audPtr (f : Frame) (s : State) : (frameOut f s).audPtr = s.audPtr := rfl
@[simp] theorem frameOut_audCnt (f : Frame) (s : State) : (frameOut f s).audCnt = s.audCnt := rfl
@[simp] theorem frameOut_tmrPr (f : Frame) (s : State) : (frameOut f s).tmrPr = s.tmrPr := rfl
@[simp] theorem frameOut_tmrMr (f : Frame) (s : State) : (frameOut f s).tmrMr = s.tmrMr := rfl
@[simp] theorem frameOut_tmrTc (f : Frame) (s : State) : (frameOut f s).tmrTc = s.tmrTc := rfl
@[simp] theorem frameOut_tmrPc (f : Frame) (s : State) : (frameOut f s).tmrPc = s.tmrPc := rfl
@[simp] theorem frameOut_mr0 (f : Frame) (s : State) : (frameOut f s).mr0 = s.mr0 := rfl
@[simp] theorem frameOut_dacData (f : Frame) (s : State) : (frameOut f s).dacData = s.dacData := rfl
@[simp] theorem frameOut_timerPhase (f : Frame) (s : State) : (frameOut f s).timerPhase = s.timerPhase := rfl
@[simp] theorem frameOut_mem (f : Frame) (s : State) : (frameOut f s).mem = s.mem := rfl
@[simp] theorem frameOut_frames (f : Frame) (s : State) : (frameOut f s).frames = s.frames ++ [f] := rfl
@[simp] theorem frameOut_dacHist (f : Frame) (s : State) : (frameOut f s).dacHist = s.dacHist := rfl
@[simp] theorem frameOut_gfxReads (f : Frame) (s : State) : (frameOut f s).gfxReads = s.gfxReads := rfl
@[simp] theorem frameOut_audReads (f : Frame) (s : State) : (frameOut f s).audReads = s.audReads := rfl
@[simp] theorem frameOut_hostReads (f : Frame) (s : State) : (frameOut f s).hostReads = s.hostReads := rfl
@[simp] theorem frameOut_platform (f : Frame) (s : State) : (frameOut f s).platform = s.platform := rfl
@[simp] theorem frameOut_host (f : Frame) (s : State) : (frameOut f s).host = s.host := rfl
@[simp] theorem frameOut_sched (f : Frame) (s : State) : (frameOut f s).sched = s.sched := rfl
@[simp] theorem frameOut_turn (f : Frame) (s : State) : (frameOut f s).turn = s.turn := rfl

/-- frameOut as one record update. -/
theorem frameOut_eq (f : Frame) (s : State) : frameOut f s = { s with csN := true, fBusy := false, inFlight := none, rxWord := none, frames := s.frames ++ [f] } := rfl

/-! ## tookTurn -/

@[simp] theorem tookTurn_cmdLo (s : State) : (tookTurn s).cmdLo = s.cmdLo := rfl
@[simp] theorem tookTurn_cmdHi (s : State) : (tookTurn s).cmdHi = s.cmdHi := rfl
@[simp] theorem tookTurn_gfxErr (s : State) : (tookTurn s).gfxErr = s.gfxErr := rfl
@[simp] theorem tookTurn_strPtr (s : State) : (tookTurn s).strPtr = s.strPtr := rfl
@[simp] theorem tookTurn_font0 (s : State) : (tookTurn s).font0 = s.font0 := rfl
@[simp] theorem tookTurn_font1 (s : State) : (tookTurn s).font1 = s.font1 := rfl
@[simp] theorem tookTurn_font2 (s : State) : (tookTurn s).font2 = s.font2 := rfl
@[simp] theorem tookTurn_gfxOpc (s : State) : (tookTurn s).gfxOpc = s.gfxOpc := rfl
@[simp] theorem tookTurn_rstN (s : State) : (tookTurn s).rstN = s.rstN := rfl
@[simp] theorem tookTurn_clkDiv (s : State) : (tookTurn s).clkDiv = s.clkDiv := rfl
@[simp] theorem tookTurn_fBusy (s : State) : (tookTurn s).fBusy = s.fBusy := rfl
@[simp] theorem tookTurn_csN (s : State) : (tookTurn s).csN = s.csN := rfl
@[simp] theorem tookTurn_inFlight (s : State) : (tookTurn s).inFlight = s.inFlight := rfl
@[simp] theorem tookTurn_rxWord (s : State) : (tookTurn s).rxWord = s.rxWord := rfl
@[simp] theorem tookTurn_latched (s : State) : (tookTurn s).latched = s.latched := rfl
@[simp] theorem tookTurn_seq (s : State) : (tookTurn s).seq = s.seq := rfl
@[simp] theorem tookTurn_audState (s : State) : (tookTurn s).audState = s.audState := rfl
@[simp] theorem tookTurn_done (s : State) : (tookTurn s).done = s.done := rfl
@[simp] theorem tookTurn_audErr (s : State) : (tookTurn s).audErr = s.audErr := rfl
@[simp] theorem tookTurn_dacEn (s : State) : (tookTurn s).dacEn = s.dacEn := rfl
@[simp] theorem tookTurn_audPtr (s : State) : (tookTurn s).audPtr = s.audPtr := rfl
@[simp] theorem tookTurn_audCnt (s : State) : (tookTurn s).audCnt = s.audCnt := rfl
@[simp] theorem tookTurn_tmrPr (s : State) : (tookTurn s).tmrPr = s.tmrPr := rfl
@[simp] theorem tookTurn_tmrMr (s : State) : (tookTurn s).tmrMr = s.tmrMr := rfl
@[simp] theorem tookTurn_tmrTc (s : State) : (tookTurn s).tmrTc = s.tmrTc := rfl
@[simp] theorem tookTurn_tmrPc (s : State) : (tookTurn s).tmrPc = s.tmrPc := rfl
@[simp] theorem tookTurn_mr0 (s : State) : (tookTurn s).mr0 = s.mr0 := rfl
@[simp] theorem tookTurn_dacData (s : State) : (tookTurn s).dacData = s.dacData := rfl
@[simp] theorem tookTurn_timerPhase (s : State) : (tookTurn s).timerPhase = s.timerPhase := rfl
@[simp] theorem tookTurn_mem (s : State) : (tookTurn s).mem = s.mem := rfl
@[simp] theorem tookTurn_frames (s : State) : (tookTurn s).frames = s.frames := rfl
@[simp] theorem tookTurn_dacHist (s : State) : (tookTurn s).dacHist = s.dacHist := rfl
@[simp] theorem tookTurn_gfxReads (s : State) : (tookTurn s).gfxReads = s.gfxReads := rfl
@[simp] theorem tookTurn_audReads (s : State) : (tookTurn s).audReads = s.audReads := rfl
@[simp] theorem tookTurn_hostReads (s : State) : (tookTurn s).hostReads = s.hostReads := rfl
@[simp] theorem tookTurn_platform (s : State) : (tookTurn s).platform = s.platform := rfl
@[simp] theorem tookTurn_host (s : State) : (tookTurn s).host = s.host := rfl
@[simp] theorem tookTurn_sched (s : State) : (tookTurn s).sched = s.sched.tail := rfl
@[simp] theorem tookTurn_turn (s : State) : (tookTurn s).turn = s.turn + 1 := rfl

/-- tookTurn as one record update. -/
theorem tookTurn_eq (s : State) : tookTurn s = { s with sched := s.sched.tail, turn := s.turn + 1 } := rfl

/-! ## recordGfx -/

@[simp] theorem recordGfx_cmdLo (e : GfxError) (s : State) : (recordGfx e s).cmdLo = s.cmdLo := by unfold recordGfx; split <;> simp [*]
@[simp] theorem recordGfx_cmdHi (e : GfxError) (s : State) : (recordGfx e s).cmdHi = s.cmdHi := by unfold recordGfx; split <;> simp [*]
@[simp] theorem recordGfx_gfxErr (e : GfxError) (s : State) : (recordGfx e s).gfxErr = some (s.gfxErr.getD e) := by unfold recordGfx; split <;> simp [*]
@[simp] theorem recordGfx_strPtr (e : GfxError) (s : State) : (recordGfx e s).strPtr = s.strPtr := by unfold recordGfx; split <;> simp [*]
@[simp] theorem recordGfx_font0 (e : GfxError) (s : State) : (recordGfx e s).font0 = s.font0 := by unfold recordGfx; split <;> simp [*]
@[simp] theorem recordGfx_font1 (e : GfxError) (s : State) : (recordGfx e s).font1 = s.font1 := by unfold recordGfx; split <;> simp [*]
@[simp] theorem recordGfx_font2 (e : GfxError) (s : State) : (recordGfx e s).font2 = s.font2 := by unfold recordGfx; split <;> simp [*]
@[simp] theorem recordGfx_gfxOpc (e : GfxError) (s : State) : (recordGfx e s).gfxOpc = s.gfxOpc := by unfold recordGfx; split <;> simp [*]
@[simp] theorem recordGfx_rstN (e : GfxError) (s : State) : (recordGfx e s).rstN = s.rstN := by unfold recordGfx; split <;> simp [*]
@[simp] theorem recordGfx_clkDiv (e : GfxError) (s : State) : (recordGfx e s).clkDiv = s.clkDiv := by unfold recordGfx; split <;> simp [*]
@[simp] theorem recordGfx_fBusy (e : GfxError) (s : State) : (recordGfx e s).fBusy = s.fBusy := by unfold recordGfx; split <;> simp [*]
@[simp] theorem recordGfx_csN (e : GfxError) (s : State) : (recordGfx e s).csN = s.csN := by unfold recordGfx; split <;> simp [*]
@[simp] theorem recordGfx_inFlight (e : GfxError) (s : State) : (recordGfx e s).inFlight = s.inFlight := by unfold recordGfx; split <;> simp [*]
@[simp] theorem recordGfx_rxWord (e : GfxError) (s : State) : (recordGfx e s).rxWord = s.rxWord := by unfold recordGfx; split <;> simp [*]
@[simp] theorem recordGfx_latched (e : GfxError) (s : State) : (recordGfx e s).latched = s.latched := by unfold recordGfx; split <;> simp [*]
@[simp] theorem recordGfx_seq (e : GfxError) (s : State) : (recordGfx e s).seq = s.seq := by unfold recordGfx; split <;> simp [*]
@[simp] theorem recordGfx_audState (e : GfxError) (s : State) : (recordGfx e s).audState = s.audState := by unfold recordGfx; split <;> simp [*]
@[simp] theorem recordGfx_done (e : GfxError) (s : State) : (recordGfx e s).done = s.done := by unfold recordGfx; split <;> simp [*]
@[simp] theorem recordGfx_audErr (e : GfxError) (s : State) : (recordGfx e s).audErr = s.audErr := by unfold recordGfx; split <;> simp [*]
@[simp] theorem recordGfx_dacEn (e : GfxError) (s : State) : (recordGfx e s).dacEn = s.dacEn := by unfold recordGfx; split <;> simp [*]
@[simp] theorem recordGfx_audPtr (e : GfxError) (s : State) : (recordGfx e s).audPtr = s.audPtr := by unfold recordGfx; split <;> simp [*]
@[simp] theorem recordGfx_audCnt (e : GfxError) (s : State) : (recordGfx e s).audCnt = s.audCnt := by unfold recordGfx; split <;> simp [*]
@[simp] theorem recordGfx_tmrPr (e : GfxError) (s : State) : (recordGfx e s).tmrPr = s.tmrPr := by unfold recordGfx; split <;> simp [*]
@[simp] theorem recordGfx_tmrMr (e : GfxError) (s : State) : (recordGfx e s).tmrMr = s.tmrMr := by unfold recordGfx; split <;> simp [*]
@[simp] theorem recordGfx_tmrTc (e : GfxError) (s : State) : (recordGfx e s).tmrTc = s.tmrTc := by unfold recordGfx; split <;> simp [*]
@[simp] theorem recordGfx_tmrPc (e : GfxError) (s : State) : (recordGfx e s).tmrPc = s.tmrPc := by unfold recordGfx; split <;> simp [*]
@[simp] theorem recordGfx_mr0 (e : GfxError) (s : State) : (recordGfx e s).mr0 = s.mr0 := by unfold recordGfx; split <;> simp [*]
@[simp] theorem recordGfx_dacData (e : GfxError) (s : State) : (recordGfx e s).dacData = s.dacData := by unfold recordGfx; split <;> simp [*]
@[simp] theorem recordGfx_timerPhase (e : GfxError) (s : State) : (recordGfx e s).timerPhase = s.timerPhase := by unfold recordGfx; split <;> simp [*]
@[simp] theorem recordGfx_mem (e : GfxError) (s : State) : (recordGfx e s).mem = s.mem := by unfold recordGfx; split <;> simp [*]
@[simp] theorem recordGfx_frames (e : GfxError) (s : State) : (recordGfx e s).frames = s.frames := by unfold recordGfx; split <;> simp [*]
@[simp] theorem recordGfx_dacHist (e : GfxError) (s : State) : (recordGfx e s).dacHist = s.dacHist := by unfold recordGfx; split <;> simp [*]
@[simp] theorem recordGfx_gfxReads (e : GfxError) (s : State) : (recordGfx e s).gfxReads = s.gfxReads := by unfold recordGfx; split <;> simp [*]
@[simp] theorem recordGfx_audReads (e : GfxError) (s : State) : (recordGfx e s).audReads = s.audReads := by unfold recordGfx; split <;> simp [*]
@[simp] theorem recordGfx_hostReads (e : GfxError) (s : State) : (recordGfx e s).hostReads = s.hostReads := by unfold recordGfx; split <;> simp [*]
@[simp] theorem recordGfx_platform (e : GfxError) (s : State) : (recordGfx e s).platform = s.platform := by unfold recordGfx; split <;> simp [*]
@[simp] theorem recordGfx_host (e : GfxError) (s : State) : (recordGfx e s).host = s.host := by unfold recordGfx; split <;> simp [*]
@[simp] theorem recordGfx_sched (e : GfxError) (s : State) : (recordGfx e s).sched = s.sched := by unfold recordGfx; split <;> simp [*]
@[simp] theorem recordGfx_turn (e : GfxError) (s : State) : (recordGfx e s).turn = s.turn := by unfold recordGfx; split <;> simp [*]

/-- recordGfx as one record update. -/
theorem recordGfx_eq (e : GfxError) (s : State) : recordGfx e s = { s with gfxErr := some (s.gfxErr.getD e) } := by
  unfold recordGfx; split
  · simp [*]
  · rename_i h; cases s; simp_all

/-! ## recordAud -/

@[simp] theorem recordAud_cmdLo (e : AudError) (s : State) : (recordAud e s).cmdLo = s.cmdLo := by unfold recordAud; split <;> simp [*]
@[simp] theorem recordAud_cmdHi (e : AudError) (s : State) : (recordAud e s).cmdHi = s.cmdHi := by unfold recordAud; split <;> simp [*]
@[simp] theorem recordAud_gfxErr (e : AudError) (s : State) : (recordAud e s).gfxErr = s.gfxErr := by unfold recordAud; split <;> simp [*]
@[simp] theorem recordAud_strPtr (e : AudError) (s : State) : (recordAud e s).strPtr = s.strPtr := by unfold recordAud; split <;> simp [*]
@[simp] theorem recordAud_font0 (e : AudError) (s : State) : (recordAud e s).font0 = s.font0 := by unfold recordAud; split <;> simp [*]
@[simp] theorem recordAud_font1 (e : AudError) (s : State) : (recordAud e s).font1 = s.font1 := by unfold recordAud; split <;> simp [*]
@[simp] theorem recordAud_font2 (e : AudError) (s : State) : (recordAud e s).font2 = s.font2 := by unfold recordAud; split <;> simp [*]
@[simp] theorem recordAud_gfxOpc (e : AudError) (s : State) : (recordAud e s).gfxOpc = s.gfxOpc := by unfold recordAud; split <;> simp [*]
@[simp] theorem recordAud_rstN (e : AudError) (s : State) : (recordAud e s).rstN = s.rstN := by unfold recordAud; split <;> simp [*]
@[simp] theorem recordAud_clkDiv (e : AudError) (s : State) : (recordAud e s).clkDiv = s.clkDiv := by unfold recordAud; split <;> simp [*]
@[simp] theorem recordAud_fBusy (e : AudError) (s : State) : (recordAud e s).fBusy = s.fBusy := by unfold recordAud; split <;> simp [*]
@[simp] theorem recordAud_csN (e : AudError) (s : State) : (recordAud e s).csN = s.csN := by unfold recordAud; split <;> simp [*]
@[simp] theorem recordAud_inFlight (e : AudError) (s : State) : (recordAud e s).inFlight = s.inFlight := by unfold recordAud; split <;> simp [*]
@[simp] theorem recordAud_rxWord (e : AudError) (s : State) : (recordAud e s).rxWord = s.rxWord := by unfold recordAud; split <;> simp [*]
@[simp] theorem recordAud_latched (e : AudError) (s : State) : (recordAud e s).latched = s.latched := by unfold recordAud; split <;> simp [*]
@[simp] theorem recordAud_seq (e : AudError) (s : State) : (recordAud e s).seq = s.seq := by unfold recordAud; split <;> simp [*]
@[simp] theorem recordAud_audState (e : AudError) (s : State) : (recordAud e s).audState = s.audState := by unfold recordAud; split <;> simp [*]
@[simp] theorem recordAud_done (e : AudError) (s : State) : (recordAud e s).done = s.done := by unfold recordAud; split <;> simp [*]
@[simp] theorem recordAud_audErr (e : AudError) (s : State) : (recordAud e s).audErr = some (s.audErr.getD e) := by unfold recordAud; split <;> simp [*]
@[simp] theorem recordAud_dacEn (e : AudError) (s : State) : (recordAud e s).dacEn = s.dacEn := by unfold recordAud; split <;> simp [*]
@[simp] theorem recordAud_audPtr (e : AudError) (s : State) : (recordAud e s).audPtr = s.audPtr := by unfold recordAud; split <;> simp [*]
@[simp] theorem recordAud_audCnt (e : AudError) (s : State) : (recordAud e s).audCnt = s.audCnt := by unfold recordAud; split <;> simp [*]
@[simp] theorem recordAud_tmrPr (e : AudError) (s : State) : (recordAud e s).tmrPr = s.tmrPr := by unfold recordAud; split <;> simp [*]
@[simp] theorem recordAud_tmrMr (e : AudError) (s : State) : (recordAud e s).tmrMr = s.tmrMr := by unfold recordAud; split <;> simp [*]
@[simp] theorem recordAud_tmrTc (e : AudError) (s : State) : (recordAud e s).tmrTc = s.tmrTc := by unfold recordAud; split <;> simp [*]
@[simp] theorem recordAud_tmrPc (e : AudError) (s : State) : (recordAud e s).tmrPc = s.tmrPc := by unfold recordAud; split <;> simp [*]
@[simp] theorem recordAud_mr0 (e : AudError) (s : State) : (recordAud e s).mr0 = s.mr0 := by unfold recordAud; split <;> simp [*]
@[simp] theorem recordAud_dacData (e : AudError) (s : State) : (recordAud e s).dacData = s.dacData := by unfold recordAud; split <;> simp [*]
@[simp] theorem recordAud_timerPhase (e : AudError) (s : State) : (recordAud e s).timerPhase = s.timerPhase := by unfold recordAud; split <;> simp [*]
@[simp] theorem recordAud_mem (e : AudError) (s : State) : (recordAud e s).mem = s.mem := by unfold recordAud; split <;> simp [*]
@[simp] theorem recordAud_frames (e : AudError) (s : State) : (recordAud e s).frames = s.frames := by unfold recordAud; split <;> simp [*]
@[simp] theorem recordAud_dacHist (e : AudError) (s : State) : (recordAud e s).dacHist = s.dacHist := by unfold recordAud; split <;> simp [*]
@[simp] theorem recordAud_gfxReads (e : AudError) (s : State) : (recordAud e s).gfxReads = s.gfxReads := by unfold recordAud; split <;> simp [*]
@[simp] theorem recordAud_audReads (e : AudError) (s : State) : (recordAud e s).audReads = s.audReads := by unfold recordAud; split <;> simp [*]
@[simp] theorem recordAud_hostReads (e : AudError) (s : State) : (recordAud e s).hostReads = s.hostReads := by unfold recordAud; split <;> simp [*]
@[simp] theorem recordAud_platform (e : AudError) (s : State) : (recordAud e s).platform = s.platform := by unfold recordAud; split <;> simp [*]
@[simp] theorem recordAud_host (e : AudError) (s : State) : (recordAud e s).host = s.host := by unfold recordAud; split <;> simp [*]
@[simp] theorem recordAud_sched (e : AudError) (s : State) : (recordAud e s).sched = s.sched := by unfold recordAud; split <;> simp [*]
@[simp] theorem recordAud_turn (e : AudError) (s : State) : (recordAud e s).turn = s.turn := by unfold recordAud; split <;> simp [*]

/-- recordAud as one record update. -/
theorem recordAud_eq (e : AudError) (s : State) : recordAud e s = { s with audErr := some (s.audErr.getD e) } := by
  unfold recordAud; split
  · simp [*]
  · rename_i h; cases s; simp_all

/-! ## raiseGfx -/

@[simp] theorem raiseGfx_cmdLo (e : GfxError) (s : State) : (raiseGfx e s).cmdLo = s.cmdLo := by simp [raiseGfx]
@[simp] theorem raiseGfx_cmdHi (e : GfxError) (s : State) : (raiseGfx e s).cmdHi = s.cmdHi := by simp [raiseGfx]
@[simp] theorem raiseGfx_gfxErr (e : GfxError) (s : State) : (raiseGfx e s).gfxErr = some (s.gfxErr.getD e) := by simp [raiseGfx]
@[simp] theorem raiseGfx_strPtr (e : GfxError) (s : State) : (raiseGfx e s).strPtr = s.strPtr := by simp [raiseGfx]
@[simp] theorem raiseGfx_font0 (e : GfxError) (s : State) : (raiseGfx e s).font0 = s.font0 := by simp [raiseGfx]
@[simp] theorem raiseGfx_font1 (e : GfxError) (s : State) : (raiseGfx e s).font1 = s.font1 := by simp [raiseGfx]
@[simp] theorem raiseGfx_font2 (e : GfxError) (s : State) : (raiseGfx e s).font2 = s.font2 := by simp [raiseGfx]
@[simp] theorem raiseGfx_gfxOpc (e : GfxError) (s : State) : (raiseGfx e s).gfxOpc = s.gfxOpc := by simp [raiseGfx]
@[simp] theorem raiseGfx_rstN (e : GfxError) (s : State) : (raiseGfx e s).rstN = s.rstN := by simp [raiseGfx]
@[simp] theorem raiseGfx_clkDiv (e : GfxError) (s : State) : (raiseGfx e s).clkDiv = s.clkDiv := by simp [raiseGfx]
@[simp] theorem raiseGfx_fBusy (e : GfxError) (s : State) : (raiseGfx e s).fBusy = s.fBusy := by simp [raiseGfx]
@[simp] theorem raiseGfx_csN (e : GfxError) (s : State) : (raiseGfx e s).csN = s.csN := by simp [raiseGfx]
@[simp] theorem raiseGfx_inFlight (e : GfxError) (s : State) : (raiseGfx e s).inFlight = s.inFlight := by simp [raiseGfx]
@[simp] theorem raiseGfx_rxWord (e : GfxError) (s : State) : (raiseGfx e s).rxWord = s.rxWord := by simp [raiseGfx]
@[simp] theorem raiseGfx_latched (e : GfxError) (s : State) : (raiseGfx e s).latched = s.latched := by simp [raiseGfx]
@[simp] theorem raiseGfx_seq (e : GfxError) (s : State) : (raiseGfx e s).seq = .idle := by simp [raiseGfx]
@[simp] theorem raiseGfx_audState (e : GfxError) (s : State) : (raiseGfx e s).audState = s.audState := by simp [raiseGfx]
@[simp] theorem raiseGfx_done (e : GfxError) (s : State) : (raiseGfx e s).done = s.done := by simp [raiseGfx]
@[simp] theorem raiseGfx_audErr (e : GfxError) (s : State) : (raiseGfx e s).audErr = s.audErr := by simp [raiseGfx]
@[simp] theorem raiseGfx_dacEn (e : GfxError) (s : State) : (raiseGfx e s).dacEn = s.dacEn := by simp [raiseGfx]
@[simp] theorem raiseGfx_audPtr (e : GfxError) (s : State) : (raiseGfx e s).audPtr = s.audPtr := by simp [raiseGfx]
@[simp] theorem raiseGfx_audCnt (e : GfxError) (s : State) : (raiseGfx e s).audCnt = s.audCnt := by simp [raiseGfx]
@[simp] theorem raiseGfx_tmrPr (e : GfxError) (s : State) : (raiseGfx e s).tmrPr = s.tmrPr := by simp [raiseGfx]
@[simp] theorem raiseGfx_tmrMr (e : GfxError) (s : State) : (raiseGfx e s).tmrMr = s.tmrMr := by simp [raiseGfx]
@[simp] theorem raiseGfx_tmrTc (e : GfxError) (s : State) : (raiseGfx e s).tmrTc = s.tmrTc := by simp [raiseGfx]
@[simp] theorem raiseGfx_tmrPc (e : GfxError) (s : State) : (raiseGfx e s).tmrPc = s.tmrPc := by simp [raiseGfx]
@[simp] theorem raiseGfx_mr0 (e : GfxError) (s : State) : (raiseGfx e s).mr0 = s.mr0 := by simp [raiseGfx]
@[simp] theorem raiseGfx_dacData (e : GfxError) (s : State) : (raiseGfx e s).dacData = s.dacData := by simp [raiseGfx]
@[simp] theorem raiseGfx_timerPhase (e : GfxError) (s : State) : (raiseGfx e s).timerPhase = s.timerPhase := by simp [raiseGfx]
@[simp] theorem raiseGfx_mem (e : GfxError) (s : State) : (raiseGfx e s).mem = s.mem := by simp [raiseGfx]
@[simp] theorem raiseGfx_frames (e : GfxError) (s : State) : (raiseGfx e s).frames = s.frames := by simp [raiseGfx]
@[simp] theorem raiseGfx_dacHist (e : GfxError) (s : State) : (raiseGfx e s).dacHist = s.dacHist := by simp [raiseGfx]
@[simp] theorem raiseGfx_gfxReads (e : GfxError) (s : State) : (raiseGfx e s).gfxReads = s.gfxReads := by simp [raiseGfx]
@[simp] theorem raiseGfx_audReads (e : GfxError) (s : State) : (raiseGfx e s).audReads = s.audReads := by simp [raiseGfx]
@[simp] theorem raiseGfx_hostReads (e : GfxError) (s : State) : (raiseGfx e s).hostReads = s.hostReads := by simp [raiseGfx]
@[simp] theorem raiseGfx_platform (e : GfxError) (s : State) : (raiseGfx e s).platform = s.platform := by simp [raiseGfx]
@[simp] theorem raiseGfx_host (e : GfxError) (s : State) : (raiseGfx e s).host = s.host := by simp [raiseGfx]
@[simp] theorem raiseGfx_sched (e : GfxError) (s : State) : (raiseGfx e s).sched = s.sched := by simp [raiseGfx]
@[simp] theorem raiseGfx_turn (e : GfxError) (s : State) : (raiseGfx e s).turn = s.turn := by simp [raiseGfx]

/-- raiseGfx as one record update. -/
theorem raiseGfx_eq (e : GfxError) (s : State) : raiseGfx e s = { s with seq := .idle, gfxErr := some (s.gfxErr.getD e) } := by
  simp [raiseGfx, recordGfx_eq]

/-! ## clearCounters -/

@[simp] theorem clearCounters_cmdLo (s : State) : (clearCounters s).cmdLo = s.cmdLo := rfl
@[simp] theorem clearCounters_cmdHi (s : State) : (clearCounters s).cmdHi = s.cmdHi := rfl
@[simp] theorem clearCounters_gfxErr (s : State) : (clearCounters s).gfxErr = s.gfxErr := rfl
@[simp] theorem clearCounters_strPtr (s : State) : (clearCounters s).strPtr = s.strPtr := rfl
@[simp] theorem clearCounters_font0 (s : State) : (clearCounters s).font0 = s.font0 := rfl
@[simp] theorem clearCounters_font1 (s : State) : (clearCounters s).font1 = s.font1 := rfl
@[simp] theorem clearCounters_font2 (s : State) : (clearCounters s).font2 = s.font2 := rfl
@[simp] theorem clearCounters_gfxOpc (s : State) : (clearCounters s).gfxOpc = s.gfxOpc := rfl
@[simp] theorem clearCounters_rstN (s : State) : (clearCounters s).rstN = s.rstN := rfl
@[simp] theorem clearCounters_clkDiv (s : State) : (clearCounters s).clkDiv = s.clkDiv := rfl
@[simp] theorem clearCounters_fBusy (s : State) : (clearCounters s).fBusy = s.fBusy := rfl
@[simp] theorem clearCounters_csN (s : State) : (clearCounters s).csN = s.csN := rfl
@[simp] theorem clearCounters_inFlight (s : State) : (clearCounters s).inFlight = s.inFlight := rfl
@[simp] theorem clearCounters_rxWord (s : State) : (clearCounters s).rxWord = s.rxWord := rfl
@[simp] theorem clearCounters_latched (s : State) : (clearCounters s).latched = s.latched := rfl
@[simp] theorem clearCounters_seq (s : State) : (clearCounters s).seq = s.seq := rfl
@[simp] theorem clearCounters_audState (s : State) : (clearCounters s).audState = s.audState := rfl
@[simp] theorem clearCounters_done (s : State) : (clearCounters s).done = s.done := rfl
@[simp] theorem clearCounters_audErr (s : State) : (clearCounters s).audErr = s.audErr := rfl
@[simp] theorem clearCounters_dacEn (s : State) : (clearCounters s).dacEn = s.dacEn := rfl
@[simp] theorem clearCounters_audPtr (s : State) : (clearCounters s).audPtr = s.audPtr := rfl
@[simp] theorem clearCounters_audCnt (s : State) : (clearCounters s).audCnt = s.audCnt := rfl
@[simp] theorem clearCounters_tmrPr (s : State) : (clearCounters s).tmrPr = s.tmrPr := rfl
@[simp] theorem clearCounters_tmrMr (s : State) : (clearCounters s).tmrMr = s.tmrMr := rfl
@[simp] theorem clearCounters_tmrTc (s : State) : (clearCounters s).tmrTc = 0 := rfl
@[simp] theorem clearCounters_tmrPc (s : State) : (clearCounters s).tmrPc = 0 := rfl
@[simp] theorem clearCounters_mr0 (s : State) : (clearCounters s).mr0 = s.mr0 := rfl
@[simp] theorem clearCounters_dacData (s : State) : (clearCounters s).dacData = s.dacData := rfl
@[simp] theorem clearCounters_timerPhase (s : State) : (clearCounters s).timerPhase = s.timerPhase := rfl
@[simp] theorem clearCounters_mem (s : State) : (clearCounters s).mem = s.mem := rfl
@[simp] theorem clearCounters_frames (s : State) : (clearCounters s).frames = s.frames := rfl
@[simp] theorem clearCounters_dacHist (s : State) : (clearCounters s).dacHist = s.dacHist := rfl
@[simp] theorem clearCounters_gfxReads (s : State) : (clearCounters s).gfxReads = s.gfxReads := rfl
@[simp] theorem clearCounters_audReads (s : State) : (clearCounters s).audReads = s.audReads := rfl
@[simp] theorem clearCounters_hostReads (s : State) : (clearCounters s).hostReads = s.hostReads := rfl
@[simp] theorem clearCounters_platform (s : State) : (clearCounters s).platform = s.platform := rfl
@[simp] theorem clearCounters_host (s : State) : (clearCounters s).host = s.host := rfl
@[simp] theorem clearCounters_sched (s : State) : (clearCounters s).sched = s.sched := rfl
@[simp] theorem clearCounters_turn (s : State) : (clearCounters s).turn = s.turn := rfl

/-- clearCounters as one record update. -/
theorem clearCounters_eq (s : State) : clearCounters s = { s with tmrTc := 0, tmrPc := 0 } := rfl

/-! ## clearTimer -/

@[simp] theorem clearTimer_cmdLo (s : State) : (clearTimer s).cmdLo = s.cmdLo := rfl
@[simp] theorem clearTimer_cmdHi (s : State) : (clearTimer s).cmdHi = s.cmdHi := rfl
@[simp] theorem clearTimer_gfxErr (s : State) : (clearTimer s).gfxErr = s.gfxErr := rfl
@[simp] theorem clearTimer_strPtr (s : State) : (clearTimer s).strPtr = s.strPtr := rfl
@[simp] theorem clearTimer_font0 (s : State) : (clearTimer s).font0 = s.font0 := rfl
@[simp] theorem clearTimer_font1 (s : State) : (clearTimer s).font1 = s.font1 := rfl
@[simp] theorem clearTimer_font2 (s : State) : (clearTimer s).font2 = s.font2 := rfl
@[simp] theorem clearTimer_gfxOpc (s : State) : (clearTimer s).gfxOpc = s.gfxOpc := rfl
@[simp] theorem clearTimer_rstN (s : State) : (clearTimer s).rstN = s.rstN := rfl
@[simp] theorem clearTimer_clkDiv (s : State) : (clearTimer s).clkDiv = s.clkDiv := rfl
@[simp] theorem clearTimer_fBusy (s : State) : (clearTimer s).fBusy = s.fBusy := rfl
@[simp] theorem clearTimer_csN (s : State) : (clearTimer s).csN = s.csN := rfl
@[simp] theorem clearTimer_inFlight (s : State) : (clearTimer s).inFlight = s.inFlight := rfl
@[simp] theorem clearTimer_rxWord (s : State) : (clearTimer s).rxWord = s.rxWord := rfl
@[simp] theorem clearTimer_latched (s : State) : (clearTimer s).latched = s.latched := rfl
@[simp] theorem clearTimer_seq (s : State) : (clearTimer s).seq = s.seq := rfl
@[simp] theorem clearTimer_audState (s : State) : (clearTimer s).audState = s.audState := rfl
@[simp] theorem clearTimer_done (s : State) : (clearTimer s).done = s.done := rfl
@[simp] theorem clearTimer_audErr (s : State) : (clearTimer s).audErr = s.audErr := rfl
@[simp] theorem clearTimer_dacEn (s : State) : (clearTimer s).dacEn = s.dacEn := rfl
@[simp] theorem clearTimer_audPtr (s : State) : (clearTimer s).audPtr = s.audPtr := rfl
@[simp] theorem clearTimer_audCnt (s : State) : (clearTimer s).audCnt = s.audCnt := rfl
@[simp] theorem clearTimer_tmrPr (s : State) : (clearTimer s).tmrPr = s.tmrPr := rfl
@[simp] theorem clearTimer_tmrMr (s : State) : (clearTimer s).tmrMr = s.tmrMr := rfl
@[simp] theorem clearTimer_tmrTc (s : State) : (clearTimer s).tmrTc = 0 := rfl
@[simp] theorem clearTimer_tmrPc (s : State) : (clearTimer s).tmrPc = 0 := rfl
@[simp] theorem clearTimer_mr0 (s : State) : (clearTimer s).mr0 = false := rfl
@[simp] theorem clearTimer_dacData (s : State) : (clearTimer s).dacData = s.dacData := rfl
@[simp] theorem clearTimer_timerPhase (s : State) : (clearTimer s).timerPhase = s.timerPhase := rfl
@[simp] theorem clearTimer_mem (s : State) : (clearTimer s).mem = s.mem := rfl
@[simp] theorem clearTimer_frames (s : State) : (clearTimer s).frames = s.frames := rfl
@[simp] theorem clearTimer_dacHist (s : State) : (clearTimer s).dacHist = s.dacHist := rfl
@[simp] theorem clearTimer_gfxReads (s : State) : (clearTimer s).gfxReads = s.gfxReads := rfl
@[simp] theorem clearTimer_audReads (s : State) : (clearTimer s).audReads = s.audReads := rfl
@[simp] theorem clearTimer_hostReads (s : State) : (clearTimer s).hostReads = s.hostReads := rfl
@[simp] theorem clearTimer_platform (s : State) : (clearTimer s).platform = s.platform := rfl
@[simp] theorem clearTimer_host (s : State) : (clearTimer s).host = s.host := rfl
@[simp] theorem clearTimer_sched (s : State) : (clearTimer s).sched = s.sched := rfl
@[simp] theorem clearTimer_turn (s : State) : (clearTimer s).turn = s.turn := rfl

/-- clearTimer as one record update. -/
theorem clearTimer_eq (s : State) : clearTimer s = { s with tmrTc := 0, tmrPc := 0, mr0 := false } := rfl

/-! ## writeDac -/

@[simp] theorem writeDac_cmdLo (v : Word) (s : State) : (writeDac v s).cmdLo = s.cmdLo := rfl
@[simp] theorem writeDac_cmdHi (v : Word) (s : State) : (writeDac v s).cmdHi = s.cmdHi := rfl
@[simp] theorem writeDac_gfxErr (v : Word) (s : State) : (writeDac v s).gfxErr = s.gfxErr := rfl
@[simp] theorem writeDac_strPtr (v : Word) (s : State) : (writeDac v s).strPtr = s.strPtr := rfl
@[simp] theorem writeDac_font0 (v : Word) (s : State) : (writeDac v s).font0 = s.font0 := rfl
@[simp] theorem writeDac_font1 (v : Word) (s : State) : (writeDac v s).font1 = s.font1 := rfl
@[simp] theorem writeDac_font2 (v : Word) (s : State) : (writeDac v s).font2 = s.font2 := rfl
@[simp] theorem writeDac_gfxOpc (v : Word) (s : State) : (writeDac v s).gfxOpc = s.gfxOpc := rfl
@[simp] theorem writeDac_rstN (v : Word) (s : State) : (writeDac v s).rstN = s.rstN := rfl
@[simp] theorem writeDac_clkDiv (v : Word) (s : State) : (writeDac v s).clkDiv = s.clkDiv := rfl
@[simp] theorem writeDac_fBusy (v : Word) (s : State) : (writeDac v s).fBusy = s.fBusy := rfl
@[simp] theorem writeDac_csN (v : Word) (s : State) : (writeDac v s).csN = s.csN := rfl
@[simp] theorem writeDac_inFlight (v : Word) (s : State) : (writeDac v s).inFlight = s.inFlight := rfl
@[simp] theorem writeDac_rxWord (v : Word) (s : State) : (writeDac v s).rxWord = s.rxWord := rfl
@[simp] theorem writeDac_latched (v : Word) (s : State) : (writeDac v s).latched = s.latched := rfl
@[simp] theorem writeDac_seq (v : Word) (s : State) : (writeDac v s).seq = s.seq := rfl
@[simp] theorem writeDac_audState (v : Word) (s : State) : (writeDac v s).audState = s.audState := rfl
@[simp] theorem writeDac_done (v : Word) (s : State) : (writeDac v s).done = s.done := rfl
@[simp] theorem writeDac_audErr (v : Word) (s : State) : (writeDac v s).audErr = s.audErr := rfl
@[simp] theorem writeDac_dacEn (v : Word) (s : State) : (writeDac v s).dacEn = s.dacEn := rfl
@[simp] theorem writeDac_audPtr (v : Word) (s : State) : (writeDac v s).audPtr = s.audPtr := rfl
@[simp] theorem writeDac_audCnt (v : Word) (s : State) : (writeDac v s).audCnt = s.audCnt := rfl
@[simp] theorem writeDac_tmrPr (v : Word) (s : State) : (writeDac v s).tmrPr = s.tmrPr := rfl
@[simp] theorem writeDac_tmrMr (v : Word) (s : State) : (writeDac v s).tmrMr = s.tmrMr := rfl
@[simp] theorem writeDac_tmrTc (v : Word) (s : State) : (writeDac v s).tmrTc = s.tmrTc := rfl
@[simp] theorem writeDac_tmrPc (v : Word) (s : State) : (writeDac v s).tmrPc = s.tmrPc := rfl
@[simp] theorem writeDac_mr0 (v : Word) (s : State) : (writeDac v s).mr0 = s.mr0 := rfl
@[simp] theorem writeDac_dacData (v : Word) (s : State) : (writeDac v s).dacData = v := rfl
@[simp] theorem writeDac_timerPhase (v : Word) (s : State) : (writeDac v s).timerPhase = s.timerPhase := rfl
@[simp] theorem writeDac_mem (v : Word) (s : State) : (writeDac v s).mem = s.mem := rfl
@[simp] theorem writeDac_frames (v : Word) (s : State) : (writeDac v s).frames = s.frames := rfl
@[simp] theorem writeDac_dacHist (v : Word) (s : State) : (writeDac v s).dacHist = s.dacHist ++ [v] := rfl
@[simp] theorem writeDac_gfxReads (v : Word) (s : State) : (writeDac v s).gfxReads = s.gfxReads := rfl
@[simp] theorem writeDac_audReads (v : Word) (s : State) : (writeDac v s).audReads = s.audReads := rfl
@[simp] theorem writeDac_hostReads (v : Word) (s : State) : (writeDac v s).hostReads = s.hostReads := rfl
@[simp] theorem writeDac_platform (v : Word) (s : State) : (writeDac v s).platform = s.platform := rfl
@[simp] theorem writeDac_host (v : Word) (s : State) : (writeDac v s).host = s.host := rfl
@[simp] theorem writeDac_sched (v : Word) (s : State) : (writeDac v s).sched = s.sched := rfl
@[simp] theorem writeDac_turn (v : Word) (s : State) : (writeDac v s).turn = s.turn := rfl

/-- writeDac as one record update. -/
theorem writeDac_eq (v : Word) (s : State) : writeDac v s = { s with dacData := v, dacHist := s.dacHist ++ [v] } := rfl

/-! ## noteRead -/

@[simp] theorem noteRead_cmdLo (r : HostRead) (s : State) : (noteRead r s).cmdLo = s.cmdLo := rfl
@[simp] theorem noteRead_cmdHi (r : HostRead) (s : State) : (noteRead r s).cmdHi = s.cmdHi := rfl
@[simp] theorem noteRead_gfxErr (r : HostRead) (s : State) : (noteRead r s).gfxErr = s.gfxErr := rfl
@[simp] theorem noteRead_strPtr (r : HostRead) (s : State) : (noteRead r s).strPtr = s.strPtr := rfl
@[simp] theorem noteRead_font0 (r : HostRead) (s : State) : (noteRead r s).font0 = s.font0 := rfl
@[simp] theorem noteRead_font1 (r : HostRead) (s : State) : (noteRead r s).font1 = s.font1 := rfl
@[simp] theorem noteRead_font2 (r : HostRead) (s : State) : (noteRead r s).font2 = s.font2 := rfl
@[simp] theorem noteRead_gfxOpc (r : HostRead) (s : State) : (noteRead r s).gfxOpc = s.gfxOpc := rfl
@[simp] theorem noteRead_rstN (r : HostRead) (s : State) : (noteRead r s).rstN = s.rstN := rfl
@[simp] theorem noteRead_clkDiv (r : HostRead) (s : State) : (noteRead r s).clkDiv = s.clkDiv := rfl
@[simp] theorem noteRead_fBusy (r : HostRead) (s : State) : (noteRead r s).fBusy = s.fBusy := rfl
@[simp] theorem noteRead_csN (r : HostRead) (s : State) : (noteRead r s).csN = s.csN := rfl
@[simp] theorem noteRead_inFlight (r : HostRead) (s : State) : (noteRead r s).inFlight = s.inFlight := rfl
@[simp] theorem noteRead_rxWord (r : HostRead) (s : State) : (noteRead r s).rxWord = s.rxWord := rfl
@[simp] theorem noteRead_latched (r : HostRead) (s : State) : (noteRead r s).latched = s.latched := rfl
@[simp] theorem noteRead_seq (r : HostRead) (s : State) : (noteRead r s).seq = s.seq := rfl
@[simp] theorem noteRead_audState (r : HostRead) (s : State) : (noteRead r s).audState = s.audState := rfl
@[simp] theorem noteRead_done (r : HostRead) (s : State) : (noteRead r s).done = s.done := rfl
@[simp] theorem noteRead_audErr (r : HostRead) (s : State) : (noteRead r s).audErr = s.audErr := rfl
@[simp] theorem noteRead_dacEn (r : HostRead) (s : State) : (noteRead r s).dacEn = s.dacEn := rfl
@[simp] theorem noteRead_audPtr (r : HostRead) (s : State) : (noteRead r s).audPtr = s.audPtr := rfl
@[simp] theorem noteRead_audCnt (r : HostRead) (s : State) : (noteRead r s).audCnt = s.audCnt := rfl
@[simp] theorem noteRead_tmrPr (r : HostRead) (s : State) : (noteRead r s).tmrPr = s.tmrPr := rfl
@[simp] theorem noteRead_tmrMr (r : HostRead) (s : State) : (noteRead r s).tmrMr = s.tmrMr := rfl
@[simp] theorem noteRead_tmrTc (r : HostRead) (s : State) : (noteRead r s).tmrTc = s.tmrTc := rfl
@[simp] theorem noteRead_tmrPc (r : HostRead) (s : State) : (noteRead r s).tmrPc = s.tmrPc := rfl
@[simp] theorem noteRead_mr0 (r : HostRead) (s : State) : (noteRead r s).mr0 = s.mr0 := rfl
@[simp] theorem noteRead_dacData (r : HostRead) (s : State) : (noteRead r s).dacData = s.dacData := rfl
@[simp] theorem noteRead_timerPhase (r : HostRead) (s : State) : (noteRead r s).timerPhase = s.timerPhase := rfl
@[simp] theorem noteRead_mem (r : HostRead) (s : State) : (noteRead r s).mem = s.mem := rfl
@[simp] theorem noteRead_frames (r : HostRead) (s : State) : (noteRead r s).frames = s.frames := rfl
@[simp] theorem noteRead_dacHist (r : HostRead) (s : State) : (noteRead r s).dacHist = s.dacHist := rfl
@[simp] theorem noteRead_gfxReads (r : HostRead) (s : State) : (noteRead r s).gfxReads = s.gfxReads := rfl
@[simp] theorem noteRead_audReads (r : HostRead) (s : State) : (noteRead r s).audReads = s.audReads := rfl
@[simp] theorem noteRead_hostReads (r : HostRead) (s : State) : (noteRead r s).hostReads = s.hostReads ++ [r] := rfl
@[simp] theorem noteRead_platform (r : HostRead) (s : State) : (noteRead r s).platform = s.platform := rfl
@[simp] theorem noteRead_host (r : HostRead) (s : State) : (noteRead r s).host = s.host := rfl
@[simp] theorem noteRead_sched (r : HostRead) (s : State) : (noteRead r s).sched = s.sched := rfl
@[simp] theorem noteRead_turn (r : HostRead) (s : State) : (noteRead r s).turn = s.turn := rfl

/-- noteRead as one record update. -/
theorem noteRead_eq (r : HostRead) (s : State) : noteRead r s = { s with hostReads := s.hostReads ++ [r] } := rfl

/-! ## withByte -/

@[simp] theorem withByte_cmdLo (s : State) (a : Word) (b : Byte) : (withByte s a b).cmdLo = s.cmdLo := rfl
@[simp] theorem withByte_cmdHi (s : State) (a : Word) (b : Byte) : (withByte s a b).cmdHi = s.cmdHi := rfl
@[simp] theorem withByte_gfxErr (s : State) (a : Word) (b : Byte) : (withByte s a b).gfxErr = s.gfxErr := rfl
@[simp] theorem withByte_strPtr (s : State) (a : Word) (b : Byte) : (withByte s a b).strPtr = s.strPtr := rfl
@[simp] theorem withByte_font0 (s : State) (a : Word) (b : Byte) : (withByte s a b).font0 = s.font0 := rfl
@[simp] theorem withByte_font1 (s : State) (a : Word) (b : Byte) : (withByte s a b).font1 = s.font1 := rfl
@[simp] theorem withByte_font2 (s : State) (a : Word) (b : Byte) : (withByte s a b).font2 = s.font2 := rfl
@[simp] theorem withByte_gfxOpc (s : State) (a : Word) (b : Byte) : (withByte s a b).gfxOpc = s.gfxOpc := rfl
@[simp] theorem withByte_rstN (s : State) (a : Word) (b : Byte) : (withByte s a b).rstN = s.rstN := rfl
@[simp] theorem withByte_clkDiv (s : State) (a : Word) (b : Byte) : (withByte s a b).clkDiv = s.clkDiv := rfl
@[simp] theorem withByte_fBusy (s : State) (a : Word) (b : Byte) : (withByte s a b).fBusy = s.fBusy := rfl
@[simp] theorem withByte_csN (s : State) (a : Word) (b : Byte) : (withByte s a b).csN = s.csN := rfl
@[simp] theorem withByte_inFlight (s : State) (a : Word) (b : Byte) : (withByte s a b).inFlight = s.inFlight := rfl
@[simp] theorem withByte_rxWord (s : State) (a : Word) (b : Byte) : (withByte s a b).rxWord = s.rxWord := rfl
@[simp] theorem withByte_latched (s : State) (a : Word) (b : Byte) : (withByte s a b).latched = s.latched := rfl
@[simp] theorem withByte_seq (s : State) (a : Word) (b : Byte) : (withByte s a b).seq = s.seq := rfl
@[simp] theorem withByte_audState (s : State) (a : Word) (b : Byte) : (withByte s a b).audState = s.audState := rfl
@[simp] theorem withByte_done (s : State) (a : Word) (b : Byte) : (withByte s a b).done = s.done := rfl
@[simp] theorem withByte_audErr (s : State) (a : Word) (b : Byte) : (withByte s a b).audErr = s.audErr := rfl
@[simp] theorem withByte_dacEn (s : State) (a : Word) (b : Byte) : (withByte s a b).dacEn = s.dacEn := rfl
@[simp] theorem withByte_audPtr (s : State) (a : Word) (b : Byte) : (withByte s a b).audPtr = s.audPtr := rfl
@[simp] theorem withByte_audCnt (s : State) (a : Word) (b : Byte) : (withByte s a b).audCnt = s.audCnt := rfl
@[simp] theorem withByte_tmrPr (s : State) (a : Word) (b : Byte) : (withByte s a b).tmrPr = s.tmrPr := rfl
@[simp] theorem withByte_tmrMr (s : State) (a : Word) (b : Byte) : (withByte s a b).tmrMr = s.tmrMr := rfl
@[simp] theorem withByte_tmrTc (s : State) (a : Word) (b : Byte) : (withByte s a b).tmrTc = s.tmrTc := rfl
@[simp] theorem withByte_tmrPc (s : State) (a : Word) (b : Byte) : (withByte s a b).tmrPc = s.tmrPc := rfl
@[simp] theorem withByte_mr0 (s : State) (a : Word) (b : Byte) : (withByte s a b).mr0 = s.mr0 := rfl
@[simp] theorem withByte_dacData (s : State) (a : Word) (b : Byte) : (withByte s a b).dacData = s.dacData := rfl
@[simp] theorem withByte_timerPhase (s : State) (a : Word) (b : Byte) : (withByte s a b).timerPhase = s.timerPhase := rfl
@[simp] theorem withByte_mem (s : State) (a : Word) (b : Byte) : (withByte s a b).mem = s.mem.set a.toNat b := rfl
@[simp] theorem withByte_frames (s : State) (a : Word) (b : Byte) : (withByte s a b).frames = s.frames := rfl
@[simp] theorem withByte_dacHist (s : State) (a : Word) (b : Byte) : (withByte s a b).dacHist = s.dacHist := rfl
@[simp] theorem withByte_gfxReads (s : State) (a : Word) (b : Byte) : (withByte s a b).gfxReads = s.gfxReads := rfl
@[simp] theorem withByte_audReads (s : State) (a : Word) (b : Byte) : (withByte s a b).audReads = s.audReads := rfl
@[simp] theorem withByte_hostReads (s : State) (a : Word) (b : Byte) : (withByte s a b).hostReads = s.hostReads := rfl
@[simp] theorem withByte_platform (s : State) (a : Word) (b : Byte) : (withByte s a b).platform = s.platform := rfl
@[simp] theorem withByte_host (s : State) (a : Word) (b : Byte) : (withByte s a b).host = s.host := rfl
@[simp] theorem withByte_sched (s : State) (a : Word) (b : Byte) : (withByte s a b).sched = s.sched := rfl
@[simp] theorem withByte_turn (s : State) (a : Word) (b : Byte) : (withByte s a b).turn = s.turn := rfl

/-- withByte as one record update. -/
theorem withByte_eq (s : State) (a : Word) (b : Byte) : withByte s a b = { s with mem := s.mem.set a.toNat b } := rfl

/-! ## tick -/

@[simp] theorem tick_cmdLo (s : State) : (tick s).cmdLo = s.cmdLo := rfl
@[simp] theorem tick_cmdHi (s : State) : (tick s).cmdHi = s.cmdHi := rfl
@[simp] theorem tick_gfxErr (s : State) : (tick s).gfxErr = s.gfxErr := rfl
@[simp] theorem tick_strPtr (s : State) : (tick s).strPtr = s.strPtr := rfl
@[simp] theorem tick_font0 (s : State) : (tick s).font0 = s.font0 := rfl
@[simp] theorem tick_font1 (s : State) : (tick s).font1 = s.font1 := rfl
@[simp] theorem tick_font2 (s : State) : (tick s).font2 = s.font2 := rfl
@[simp] theorem tick_gfxOpc (s : State) : (tick s).gfxOpc = s.gfxOpc := rfl
@[simp] theorem tick_rstN (s : State) : (tick s).rstN = s.rstN := rfl
@[simp] theorem tick_clkDiv (s : State) : (tick s).clkDiv = s.clkDiv := rfl
@[simp] theorem tick_fBusy (s : State) : (tick s).fBusy = s.fBusy := rfl
@[simp] theorem tick_csN (s : State) : (tick s).csN = s.csN := rfl
@[simp] theorem tick_inFlight (s : State) : (tick s).inFlight = s.inFlight := rfl
@[simp] theorem tick_rxWord (s : State) : (tick s).rxWord = s.rxWord := rfl
@[simp] theorem tick_latched (s : State) : (tick s).latched = s.latched := rfl
@[simp] theorem tick_seq (s : State) : (tick s).seq = s.seq := rfl
@[simp] theorem tick_audState (s : State) : (tick s).audState = s.audState := rfl
@[simp] theorem tick_done (s : State) : (tick s).done = s.done := rfl
@[simp] theorem tick_audErr (s : State) : (tick s).audErr = s.audErr := rfl
@[simp] theorem tick_dacEn (s : State) : (tick s).dacEn = s.dacEn := rfl
@[simp] theorem tick_audPtr (s : State) : (tick s).audPtr = s.audPtr := rfl
@[simp] theorem tick_audCnt (s : State) : (tick s).audCnt = s.audCnt := rfl
@[simp] theorem tick_tmrPr (s : State) : (tick s).tmrPr = s.tmrPr := rfl
@[simp] theorem tick_tmrMr (s : State) : (tick s).tmrMr = s.tmrMr := rfl
@[simp] theorem tick_tmrTc (s : State) : (tick s).tmrTc = s.tmrTc := rfl
@[simp] theorem tick_tmrPc (s : State) : (tick s).tmrPc = s.tmrPc := rfl
@[simp] theorem tick_mr0 (s : State) : (tick s).mr0 = true := rfl
@[simp] theorem tick_dacData (s : State) : (tick s).dacData = s.dacData := rfl
@[simp] theorem tick_timerPhase (s : State) : (tick s).timerPhase = s.timerPhase := rfl
@[simp] theorem tick_mem (s : State) : (tick s).mem = s.mem := rfl
@[simp] theorem tick_frames (s : State) : (tick s).frames = s.frames := rfl
@[simp] theorem tick_dacHist (s : State) : (tick s).dacHist = s.dacHist := rfl
@[simp] theorem tick_gfxReads (s : State) : (tick s).gfxReads = s.gfxReads := rfl
@[simp] theorem tick_audReads (s : State) : (tick s).audReads = s.audReads := rfl
@[simp] theorem tick_hostReads (s : State) : (tick s).hostReads = s.hostReads := rfl
@[simp] theorem tick_platform (s : State) : (tick s).platform = s.platform := rfl
@[simp] theorem tick_host (s : State) : (tick s).host = s.host := rfl
@[simp] theorem tick_sched (s : State) : (tick s).sched = s.sched := rfl
@[simp] theorem tick_turn (s : State) : (tick s).turn = s.turn := rfl

/-- tick as one record update. -/
theorem tick_eq (s : State) : tick s = { s with mr0 := true } := rfl

/-! ## launched -/

@[simp] theorem launched_cmdLo (c : Ctl) (s : State) : (launched c s).cmdLo = s.cmdLo := rfl
@[simp] theorem launched_cmdHi (c : Ctl) (s : State) : (launched c s).cmdHi = s.cmdHi := rfl
@[simp] theorem launched_gfxErr (c : Ctl) (s : State) : (launched c s).gfxErr = s.gfxErr := rfl
@[simp] theorem launched_strPtr (c : Ctl) (s : State) : (launched c s).strPtr = s.strPtr := rfl
@[simp] theorem launched_font0 (c : Ctl) (s : State) : (launched c s).font0 = s.font0 := rfl
@[simp] theorem launched_font1 (c : Ctl) (s : State) : (launched c s).font1 = s.font1 := rfl
@[simp] theorem launched_font2 (c : Ctl) (s : State) : (launched c s).font2 = s.font2 := rfl
@[simp] theorem launched_gfxOpc (c : Ctl) (s : State) : (launched c s).gfxOpc = s.gfxOpc := rfl
@[simp] theorem launched_rstN (c : Ctl) (s : State) : (launched c s).rstN = s.rstN := rfl
@[simp] theorem launched_clkDiv (c : Ctl) (s : State) : (launched c s).clkDiv = s.clkDiv := rfl
@[simp] theorem launched_fBusy (c : Ctl) (s : State) : (launched c s).fBusy = s.fBusy := rfl
@[simp] theorem launched_csN (c : Ctl) (s : State) : (launched c s).csN = s.csN := rfl
@[simp] theorem launched_inFlight (c : Ctl) (s : State) : (launched c s).inFlight = s.inFlight := rfl
@[simp] theorem launched_rxWord (c : Ctl) (s : State) : (launched c s).rxWord = s.rxWord := rfl
@[simp] theorem launched_latched (c : Ctl) (s : State) : (launched c s).latched = s.cmdHi ++ s.cmdLo := rfl
@[simp] theorem launched_seq (c : Ctl) (s : State) : (launched c s).seq = .running [] c := rfl
@[simp] theorem launched_audState (c : Ctl) (s : State) : (launched c s).audState = s.audState := rfl
@[simp] theorem launched_done (c : Ctl) (s : State) : (launched c s).done = s.done := rfl
@[simp] theorem launched_audErr (c : Ctl) (s : State) : (launched c s).audErr = s.audErr := rfl
@[simp] theorem launched_dacEn (c : Ctl) (s : State) : (launched c s).dacEn = s.dacEn := rfl
@[simp] theorem launched_audPtr (c : Ctl) (s : State) : (launched c s).audPtr = s.audPtr := rfl
@[simp] theorem launched_audCnt (c : Ctl) (s : State) : (launched c s).audCnt = s.audCnt := rfl
@[simp] theorem launched_tmrPr (c : Ctl) (s : State) : (launched c s).tmrPr = s.tmrPr := rfl
@[simp] theorem launched_tmrMr (c : Ctl) (s : State) : (launched c s).tmrMr = s.tmrMr := rfl
@[simp] theorem launched_tmrTc (c : Ctl) (s : State) : (launched c s).tmrTc = s.tmrTc := rfl
@[simp] theorem launched_tmrPc (c : Ctl) (s : State) : (launched c s).tmrPc = s.tmrPc := rfl
@[simp] theorem launched_mr0 (c : Ctl) (s : State) : (launched c s).mr0 = s.mr0 := rfl
@[simp] theorem launched_dacData (c : Ctl) (s : State) : (launched c s).dacData = s.dacData := rfl
@[simp] theorem launched_timerPhase (c : Ctl) (s : State) : (launched c s).timerPhase = s.timerPhase := rfl
@[simp] theorem launched_mem (c : Ctl) (s : State) : (launched c s).mem = s.mem := rfl
@[simp] theorem launched_frames (c : Ctl) (s : State) : (launched c s).frames = s.frames := rfl
@[simp] theorem launched_dacHist (c : Ctl) (s : State) : (launched c s).dacHist = s.dacHist := rfl
@[simp] theorem launched_gfxReads (c : Ctl) (s : State) : (launched c s).gfxReads = s.gfxReads := rfl
@[simp] theorem launched_audReads (c : Ctl) (s : State) : (launched c s).audReads = s.audReads := rfl
@[simp] theorem launched_hostReads (c : Ctl) (s : State) : (launched c s).hostReads = s.hostReads := rfl
@[simp] theorem launched_platform (c : Ctl) (s : State) : (launched c s).platform = s.platform := rfl
@[simp] theorem launched_host (c : Ctl) (s : State) : (launched c s).host = s.host := rfl
@[simp] theorem launched_sched (c : Ctl) (s : State) : (launched c s).sched = s.sched := rfl
@[simp] theorem launched_turn (c : Ctl) (s : State) : (launched c s).turn = s.turn := rfl

/-- launched as one record update. -/
theorem launched_eq (c : Ctl) (s : State) : launched c s = { s with latched := s.cmdHi ++ s.cmdLo, seq := .running [] c } := rfl

/-! ## Derived flags -/

@[simp] theorem gfxBusy_idle {s : State} (h : s.seq = .idle) : gfxBusy s = false := by simp [gfxBusy, h]

theorem gfxBusy_eq_false_iff (s : State) : gfxBusy s = false ↔ s.seq = .idle := by
  unfold gfxBusy; split <;> simp_all

theorem gfxBusy_eq_true_iff (s : State) : gfxBusy s = true ↔ s.seq ≠ .idle := by
  unfold gfxBusy; split <;> simp_all

theorem timerRunning_eq_true_iff (s : State) : timerRunning s = true ↔ s.audState = .streaming := by
  simp [timerRunning]

end Sys2Proof.Machine
end

