-- ==== Sys2Proof/Laws/Ops.lean ====
section
/-! SUPPORT. For each shared operation, once, everything it can do: the provers cite these lemmas and unfold none of the
operations. -/

namespace Sys2Proof.Machine

open Host

/-! ## The launch -/

theorem launch_of_idle {s : State} (h : gfxBusy s = false) (c : Ctl) : launch c s = .next (launched c s) := by
  simp [launch, launched, h]

theorem launch_of_busy {s : State} (h : gfxBusy s = true) (c : Ctl) : launch c s = .next (recordGfx .busy s) := by
  simp [launch, h]

theorem launchNothing_of_idle {s : State} (h : gfxBusy s = false) :
    launchNothing s = .next { s with latched := s.cmdHi ++ s.cmdLo } := by simp [launchNothing, h]

theorem launchIllegal_of_idle {s : State} (h : gfxBusy s = false) :
    launchIllegal s = .next (raiseGfx .illegal { s with latched := s.cmdHi ++ s.cmdLo }) := by simp [launchIllegal, h]

/-- What any instruction's meaning does: refuse the launch, latch, launch, raise, or one of the audio operations. -/
theorem exec_cases {i : Instr} {s t : State} (h : exec i s = .next t) :
    t = s ∨ t = recordGfx .busy s ∨
    (gfxBusy s = false ∧
      (t = { s with latched := s.cmdHi ++ s.cmdLo } ∨ (∃ c, t = launched c s) ∨
        t = raiseGfx .illegal { s with latched := s.cmdHi ++ s.cmdLo })) ∨
    (∃ e, t = raiseAud e s) ∨
    (s.audState ≠ .streaming ∧ t = clearTimer { s with audState := .armed, dacEn := true }) ∨
    (s.audState = .armed ∧ s.audCnt ≠ 0 ∧ s.audPtr.getLsbD 0 = false ∧
      t = { clearTimer s with done := false, audState := .streaming }) ∨
    (s.audState = .streaming ∧ t = clearTimer { s with audState := .armed }) := by
  have hl : ∀ c : Ctl, launch c s = .next t → t = recordGfx .busy s ∨ (gfxBusy s = false ∧ ∃ c, t = launched c s) := by
    intro c hc
    cases hb : gfxBusy s
    · rw [launch_of_idle hb] at hc; cases hc; exact .inr ⟨rfl, c, rfl⟩
    · rw [launch_of_busy hb] at hc; cases hc; exact .inl rfl
  have hi : launchIllegal s = .next t → t = recordGfx .busy s ∨
      (gfxBusy s = false ∧ t = raiseGfx .illegal { s with latched := s.cmdHi ++ s.cmdLo }) := by
    intro hc
    cases hb : gfxBusy s
    · rw [launchIllegal_of_idle hb] at hc; cases hc; exact .inr ⟨rfl, rfl⟩
    · simp only [launchIllegal, hb, if_true] at hc; cases hc; exact .inl rfl
  cases i
  case nop =>
    have h' : launchNothing s = .next t := h
    cases hb : gfxBusy s
    · rw [launchNothing_of_idle hb] at h'; cases h'; simp
    · simp only [launchNothing, hb, if_true] at h'; cases h'; simp
  case audNop => have h' : Outcome.next s = .next t := h; cases h'; simp
  case arm =>
    simp only [exec, execArm] at h
    split at h
    · cases h; exact .inr (.inr (.inr (.inl ⟨_, rfl⟩)))
    · cases h; rename_i hs; exact .inr (.inr (.inr (.inr (.inl ⟨hs, rfl⟩))))
  case play =>
    simp only [exec, execPlay] at h
    split at h
    · cases h; exact .inr (.inr (.inr (.inl ⟨_, rfl⟩)))
    split at h
    · cases h; exact .inr (.inr (.inr (.inl ⟨_, rfl⟩)))
    split at h
    · cases h; exact .inr (.inr (.inr (.inl ⟨_, rfl⟩)))
    split at h
    · cases h; exact .inr (.inr (.inr (.inl ⟨_, rfl⟩)))
    · rename_i h1 h2 h3 h4
      cases h
      refine .inr (.inr (.inr (.inr (.inr (.inl ⟨?_, h3, by simpa using h4, rfl⟩)))))
      cases ha : s.audState <;> simp_all
  case stop =>
    simp only [exec, execStop] at h
    split at h
    · cases h; rename_i hs; exact .inr (.inr (.inr (.inr (.inr (.inr ⟨hs, rfl⟩)))))
    · cases h; exact .inl rfl
  case reservedA => rcases hi h with hh | ⟨hb, hh⟩ <;> simp [*]
  case reservedB => rcases hi h with hh | ⟨hb, hh⟩ <;> simp [*]
  case reservedC => rcases hi h with hh | ⟨hb, hh⟩ <;> simp [*]
  case reservedD => rcases hi h with hh | ⟨hb, hh⟩ <;> simp [*]
  case reservedE => rcases hi h with hh | ⟨hb, hh⟩ <;> simp [*]
  case reservedF => rcases hi h with hh | ⟨hb, hh⟩ <;> simp [*]
  all_goals
    rcases hl _ h with hh | ⟨hb, c, hh⟩
    · exact .inr (.inl hh)
    · exact .inr (.inr (.inl ⟨hb, .inr (.inl ⟨c, hh⟩)⟩))

/-! ## The raster sequencer -/

@[simp] theorem emitGroup_cons (f : Frame) (fs : List Frame) (c : Ctl) (s : State) :
    emitGroup (f :: fs) c s = frameOut f { s with seq := .running fs c } := rfl

theorem rasterStep_of_idle {s : State} (h : s.seq = .idle) : rasterStep s = .next s := by simp [rasterStep, h]

theorem rasterStep_of_group {s : State} {f : Frame} {fs : List Frame} {c : Ctl} (h : s.seq = .running (f :: fs) c) :
    rasterStep s = .next (frameOut f { s with seq := .running fs c }) := by simp [rasterStep, h]

theorem rasterStep_of_body {s : State} {c : Ctl} (h : s.seq = .running [] c) : rasterStep s = takeAct (nextAct c s) s := by
  simp [rasterStep, h]

/-- What the sequencer's step does, if it answers a next state: nothing (Idle, or a read that never completes), one frame,
one read, the end of the command, or an error. -/
theorem rasterStep_cases {s t : State} (h : rasterStep s = .next t) :
    t = s ∨
    (s.seq ≠ .idle ∧
      ((∃ f fs c, t = frameOut f { s with seq := .running fs c }) ∨
        (∃ c, t = { s with seq := .running [] c }) ∨
        (∃ a b c, memRead1 s a = .value b ∧ t = { s with seq := .running [] c, gfxReads := s.gfxReads ++ [a] }) ∨
        t = { s with seq := .idle } ∨
        ∃ e, t = raiseGfx e s)) := by
  cases hs : s.seq with
  | idle => rw [rasterStep_of_idle hs] at h; cases h; exact .inl rfl
  | running fs c =>
    cases fs with
    | cons f fs =>
      rw [rasterStep_of_group hs] at h; cases h
      exact .inr ⟨by simp, .inl ⟨f, fs, c, rfl⟩⟩
    | nil =>
      rw [rasterStep_of_body hs] at h
      cases ha : nextAct c s with
      | emit out n =>
        rw [ha] at h
        cases out with
        | nil => simp only [takeAct, emitGroup] at h; cases h; exact .inr ⟨by simp, .inr (.inl ⟨n, rfl⟩)⟩
        | cons f fs => simp only [takeAct, emitGroup_cons] at h; cases h; exact .inr ⟨by simp, .inl ⟨f, fs, n, rfl⟩⟩
      | read a k =>
        rw [ha] at h
        simp only [takeAct] at h
        split at h
        · cases h; rename_i b hb; exact .inr ⟨by simp, .inr (.inr (.inl ⟨a, b, k b, hb, rfl⟩))⟩
        · cases h; exact .inl rfl
        · cases h
      | finish => rw [ha] at h; simp only [takeAct] at h; cases h; exact .inr ⟨by simp, .inr (.inr (.inr (.inl rfl)))⟩
      | fail e => rw [ha] at h; simp only [takeAct] at h; cases h; exact .inr ⟨by simp, .inr (.inr (.inr (.inr ⟨e, rfl⟩)))⟩

/-! ## The timer and the tick service -/

/-- What a PCLK cycle does (R201). -/
theorem timerCycle_cases (s : State) :
    (s.audState ≠ .streaming ∧ timerCycle s = s) ∨
    (s.audState = .streaming ∧
      ((s.tmrPc = s.tmrPr ∧ s.tmrTc = s.tmrMr ∧ timerCycle s = { s with tmrPc := 0, tmrTc := 0, mr0 := true }) ∨
        (s.tmrPc = s.tmrPr ∧ s.tmrTc ≠ s.tmrMr ∧ timerCycle s = { s with tmrPc := 0, tmrTc := s.tmrTc + 1 }) ∨
        (s.tmrPc ≠ s.tmrPr ∧ timerCycle s = { s with tmrPc := s.tmrPc + 1 }))) := by
  by_cases hr : s.audState = .streaming
  · refine .inr ⟨hr, ?_⟩
    have hr' : timerRunning s = true := (timerRunning_eq_true_iff s).2 hr
    by_cases hp : s.tmrPc = s.tmrPr
    · by_cases ht : s.tmrTc = s.tmrMr
      · exact .inl ⟨hp, ht, by simp [timerCycle, hr', hp, ht, tick]⟩
      · exact .inr (.inl ⟨hp, ht, by simp [timerCycle, hr', hp, ht]⟩)
    · exact .inr (.inr ⟨hp, by simp [timerCycle, hr', hp]⟩)
  · exact .inl ⟨hr, by simp [timerCycle, timerRunning, hr]⟩

/-- The state after a service whose sample is not the last (R210). -/
def servedMore (sample : Half) (s : State) : State :=
  { s with
    mr0 := false
    audReads := s.audReads ++ [s.audPtr]
    dacData := dacWord sample
    dacHist := s.dacHist ++ [dacWord sample]
    audPtr := s.audPtr + 2
    audCnt := s.audCnt - 1 }

/-- The state after the service of the last sample (R210, R211). -/
def servedLast (sample : Half) (s : State) : State :=
  { s with
    mr0 := false
    audReads := s.audReads ++ [s.audPtr]
    dacData := dacWord sample
    dacHist := s.dacHist ++ [dacWord sample]
    audPtr := 0
    audCnt := s.audCnt - 1
    audState := .armed
    tmrTc := 0
    tmrPc := 0
    done := true }

theorem playSample_more {s : State} (h : s.audCnt - 1 ≠ 0) (sample : Half) : playSample sample s = servedMore sample s :=
  if_neg h

theorem playSample_last {s : State} (h : s.audCnt - 1 = 0) (sample : Half) : playSample sample s = servedLast sample s :=
  if_pos h

/-- What the service unit's step does, if it answers a next state: nothing, or one sample. -/
theorem serviceStep_cases {s t : State} (h : serviceStep s = .next t) :
    t = s ∨
    (s.mr0 = true ∧ s.audState = .streaming ∧ ∃ sample, memRead2 s s.audPtr = .value sample ∧
      ((s.audCnt - 1 ≠ 0 ∧ t = servedMore sample s) ∨ (s.audCnt - 1 = 0 ∧ t = servedLast sample s))) := by
  unfold serviceStep at h
  split at h
  · rename_i he
    simp only [serviceEnabled, Bool.and_eq_true, timerRunning_eq_true_iff] at he
    split at h
    · rename_i sample hm
      cases h
      refine .inr ⟨he.1, he.2, sample, hm, ?_⟩
      by_cases hc : s.audCnt - 1 = 0
      · exact .inr ⟨hc, playSample_last hc sample⟩
      · exact .inl ⟨hc, playSample_more hc sample⟩
    · cases h; exact .inl rfl
    · cases h
  · cases h; exact .inl rfl

/-! ## The host -/

theorem gfxConfigWrite_of_idle {s : State} (h : gfxBusy s = false) (u : State → State) :
    gfxConfigWrite u s = .next (u s) := by simp [gfxConfigWrite, h]

theorem gfxConfigWrite_of_busy {s : State} (h : gfxBusy s = true) (u : State → State) :
    gfxConfigWrite u s = .next (recordGfx .busy s) := by simp [gfxConfigWrite, h]

theorem audConfigWrite_of_stopped {s : State} (h : s.audState ≠ .streaming) (u : State → State) :
    audConfigWrite u s = .next (u s) := by simp [audConfigWrite, h]

theorem audConfigWrite_of_streaming {s : State} (h : s.audState = .streaming) (u : State → State) :
    audConfigWrite u s = .next (recordAud .busy s) := by simp [audConfigWrite, h]

/-- A host write at a register's offset is the write of that register (R21). -/
theorem hostWrite_regOffset (r : Reg) (v : Word) (s : State) : hostWrite (regOffset r) v s = writeReg r v s := by
  cases r <;> rfl

/-- A host read at a register's offset returns that register (R21). -/
theorem readWindow_regOffset (r : Reg) (s : State) : readWindow (regOffset r) s = readReg r s := by cases r <;> rfl

/-- A host write of a raster configuration register while BUSY = 1 (R31). -/
theorem writeReg_of_busy {s : State} (h : gfxBusy s = true) {r : Reg}
    (hr : r ∈ [Reg.gfxCmdLo, .gfxCmdHi, .gfxStrPtr, .gfxFont0, .gfxFont1, .gfxFont2, .gfxOpc, .linkCtrl]) (v : Word) :
    writeReg r v s = .next (recordGfx .busy s) := by
  cases r <;> simp_all [writeReg, writeCmdHi, gfxConfigWrite]

/-- A host write of a stream or timer register while Streaming (R43). -/
theorem writeReg_of_streaming {s : State} (h : s.audState = .streaming) {r : Reg}
    (hr : r ∈ [Reg.audPtr, .audCnt, .tmrPr, .tmrMr, .dacData]) (v : Word) :
    writeReg r v s = .next (recordAud .busy s) := by
  cases r <;> simp_all [writeReg, audConfigWrite]

/-- A host memory write changes memory and nothing else, and keeps its canonical form. -/
theorem hostStore_next {bs : List Byte} {a : Word} {s t : State} (h : hostStore a bs s = .next t) :
    t = { s with mem := t.mem } ∧ (s.mem.wf = true → t.mem.wf = true) := by
  induction bs generalizing a s with
  | nil => simp only [hostStore] at h; cases h; exact ⟨rfl, id⟩
  | cons b bs ih =>
    simp only [hostStore] at h
    split at h
    · obtain ⟨he, hw⟩ := ih h
      refine ⟨?_, fun hs => hw (withByte_wf hs a b)⟩
      rw [he]; rfl
    all_goals cases h

/-- A host memory read changes the host's trace and nothing else. -/
theorem hostLoad_next {n : Nat} {a : Word} {s t : State} (h : hostLoad a n s = .next t) :
    t = { s with hostReads := t.hostReads } := by
  induction n generalizing a s with
  | zero => simp only [hostLoad] at h; cases h; rfl
  | succ n ih =>
    simp only [hostLoad] at h
    split at h
    · have he := ih h
      rw [he]; rfl
    all_goals cases h

/-- What a host write of a register does, if it answers a next state: an error record, a status clear, a field of the
register, or an instruction. -/
theorem writeReg_cases {r : Reg} {v : Word} {s t : State} (h : writeReg r v s = .next t) :
    t = s ∨ t = recordGfx .busy s ∨ t = recordAud .busy s ∨ t = writeGfxStatus v s ∨ t = writeAudStatus v s ∨
    (gfxBusy s = false ∧
      (t = { s with cmdLo := v } ∨ t = { s with strPtr := v } ∨ t = { s with font0 := v } ∨ t = { s with font1 := v } ∨
        t = { s with font2 := v } ∨ t = { s with gfxOpc := v.extractLsb' 0 24 } ∨
        t = { s with rstN := v.getLsbD 0, clkDiv := v.extractLsb' 8 8 } ∨
        exec (decodeDescriptor (v ++ s.cmdLo)) { s with cmdHi := v } = .next t)) ∨
    (s.audState ≠ .streaming ∧
      (t = { s with audPtr := v } ∨ t = { s with audCnt := v } ∨ t = { s with tmrPr := v } ∨
        t = { s with tmrMr := v } ∨ t = writeDac v s)) ∨
    exec (decodeControl v) s = .next t := by
  have hg : ∀ u, gfxConfigWrite u s = .next t → t = recordGfx .busy s ∨ (gfxBusy s = false ∧ t = u s) := by
    intro u hu
    cases hb : gfxBusy s
    · rw [gfxConfigWrite_of_idle hb] at hu; cases hu; simp
    · rw [gfxConfigWrite_of_busy hb] at hu; cases hu; simp
  have ha : ∀ u, audConfigWrite u s = .next t → t = recordAud .busy s ∨ (s.audState ≠ .streaming ∧ t = u s) := by
    intro u hu
    by_cases hb : s.audState = .streaming
    · rw [audConfigWrite_of_streaming hb] at hu; cases hu; simp
    · rw [audConfigWrite_of_stopped hb] at hu; cases hu; exact .inr ⟨hb, rfl⟩
  cases r
  case gfxCmdHi =>
    simp only [writeReg, writeCmdHi] at h
    split at h
    · cases h; simp
    · rename_i hb
      exact .inr (.inr (.inr (.inr (.inr (.inl ⟨by simpa using hb, by simp [h]⟩)))))
  case gfxStatus => simp only [writeReg] at h; cases h; simp
  case audStatus => simp only [writeReg] at h; cases h; simp
  case linkStatus => simp only [writeReg] at h; cases h; simp
  case tmrTc => simp only [writeReg] at h; cases h; simp
  case tmrPc => simp only [writeReg] at h; cases h; simp
  case tmrIr => simp only [writeReg] at h; cases h; simp
  case audCtrl => exact .inr (.inr (.inr (.inr (.inr (.inr (.inr h))))))
  case gfxCmdLo =>
    simp only [writeReg] at h
    rcases hg _ h with hh | ⟨hb, hh⟩
    · exact .inr (.inl hh)
    · exact .inr (.inr (.inr (.inr (.inr (.inl ⟨hb, .inl hh⟩)))))
  case gfxStrPtr =>
    simp only [writeReg] at h
    rcases hg _ h with hh | ⟨hb, hh⟩
    · exact .inr (.inl hh)
    · exact .inr (.inr (.inr (.inr (.inr (.inl ⟨hb, .inr (.inl hh)⟩)))))
  case gfxFont0 =>
    simp only [writeReg] at h
    rcases hg _ h with hh | ⟨hb, hh⟩
    · exact .inr (.inl hh)
    · exact .inr (.inr (.inr (.inr (.inr (.inl ⟨hb, .inr (.inr (.inl hh))⟩)))))
  case gfxFont1 =>
    simp only [writeReg] at h
    rcases hg _ h with hh | ⟨hb, hh⟩
    · exact .inr (.inl hh)
    · exact .inr (.inr (.inr (.inr (.inr (.inl ⟨hb, .inr (.inr (.inr (.inl hh)))⟩)))))
  case gfxFont2 =>
    simp only [writeReg] at h
    rcases hg _ h with hh | ⟨hb, hh⟩
    · exact .inr (.inl hh)
    · exact .inr (.inr (.inr (.inr (.inr (.inl ⟨hb, .inr (.inr (.inr (.inr (.inl hh))))⟩)))))
  case gfxOpc =>
    simp only [writeReg] at h
    rcases hg _ h with hh | ⟨hb, hh⟩
    · exact .inr (.inl hh)
    · exact .inr (.inr (.inr (.inr (.inr (.inl ⟨hb, .inr (.inr (.inr (.inr (.inr (.inl hh)))))⟩)))))
  case linkCtrl =>
    simp only [writeReg] at h
    rcases hg _ h with hh | ⟨hb, hh⟩
    · exact .inr (.inl hh)
    · exact .inr (.inr (.inr (.inr (.inr (.inl ⟨hb, .inr (.inr (.inr (.inr (.inr (.inr (.inl hh))))))⟩)))))
  case audPtr =>
    simp only [writeReg] at h
    rcases ha _ h with hh | ⟨hb, hh⟩
    · exact .inr (.inr (.inl hh))
    · exact .inr (.inr (.inr (.inr (.inr (.inr (.inl ⟨hb, .inl hh⟩))))))
  case audCnt =>
    simp only [writeReg] at h
    rcases ha _ h with hh | ⟨hb, hh⟩
    · exact .inr (.inr (.inl hh))
    · exact .inr (.inr (.inr (.inr (.inr (.inr (.inl ⟨hb, .inr (.inl hh)⟩))))))
  case tmrPr =>
    simp only [writeReg] at h
    rcases ha _ h with hh | ⟨hb, hh⟩
    · exact .inr (.inr (.inl hh))
    · exact .inr (.inr (.inr (.inr (.inr (.inr (.inl ⟨hb, .inr (.inr (.inl hh))⟩))))))
  case tmrMr =>
    simp only [writeReg] at h
    rcases ha _ h with hh | ⟨hb, hh⟩
    · exact .inr (.inr (.inl hh))
    · exact .inr (.inr (.inr (.inr (.inr (.inr (.inl ⟨hb, .inr (.inr (.inr (.inl hh)))⟩))))))
  case dacData =>
    simp only [writeReg] at h
    rcases ha _ h with hh | ⟨hb, hh⟩
    · exact .inr (.inr (.inl hh))
    · exact .inr (.inr (.inr (.inr (.inr (.inr (.inl ⟨hb, .inr (.inr (.inr (.inr (hh))))⟩))))))

/-- What a host step does, if it answers a next state: nothing but use up an operation, a register write, a trace entry,
or a memory write; `rest` is the host's program after it. -/
theorem hostStep_cases {s t : State} (h : hostStep s = .next t) :
    ∃ rest, (∃ r v, writeReg r v { s with host := rest } = .next t) ∨
      (∃ reads, t = { s with host := rest, hostReads := reads }) ∨
      (t = { s with host := rest, mem := t.mem } ∧ (s.mem.wf = true → t.mem.wf = true)) := by
  have hw : ∀ off v rest, hostWrite off v { s with host := rest } = .next t →
      (∃ r v, writeReg r v { s with host := rest } = .next t) ∨ (∃ reads, t = { s with host := rest, hostReads := reads }) := by
    intro off v rest hh
    unfold hostWrite at hh
    split at hh
    · split at hh
      · exact .inl ⟨_, _, hh⟩
      · cases hh; exact .inr ⟨s.hostReads, rfl⟩
    · cases hh
  have hr : ∀ off rest, hostRead off { s with host := rest } = .next t →
      ∃ reads, t = { s with host := rest, hostReads := reads } := by
    intro off rest hh
    unfold hostRead at hh
    split at hh
    · cases hh; exact ⟨_, rfl⟩
    · cases hh
  have hs : ∀ a bs rest, hostStore a bs { s with host := rest } = .next t →
      t = { s with host := rest, mem := t.mem } ∧ (s.mem.wf = true → t.mem.wf = true) := by
    intro a bs rest hh
    exact hostStore_next hh
  have hl : ∀ a n rest, hostLoad a n { s with host := rest } = .next t →
      ∃ reads, t = { s with host := rest, hostReads := reads } := by
    intro a n rest hh
    exact ⟨t.hostReads, hostLoad_next hh⟩
  unfold hostStep at h
  split at h
  · cases h; rename_i he; exact ⟨s.host, .inr (.inl ⟨s.hostReads, rfl⟩)⟩
  · rename_i op rest he
    cases op with
    | wr off v =>
      refine ⟨rest, ?_⟩
      rcases hw _ _ _ h with hh | hh
      · exact .inl hh
      · exact .inr (.inl hh)
    | rd off => exact ⟨rest, .inr (.inl (hr _ _ h))⟩
    | wait off mask value =>
      simp only [hostOp, hostWait] at h
      split at h
      · split at h
        · cases h; exact ⟨rest, .inr (.inl ⟨_, rfl⟩)⟩
        · cases h; exact ⟨.wait off mask value :: rest, .inr (.inl ⟨_, rfl⟩)⟩
      · cases h
    | mem8 a bs =>
      cases bs with
      | nil => simp only [hostOp] at h; cases h; exact ⟨rest, .inr (.inl ⟨s.hostReads, rfl⟩)⟩
      | cons b bs => exact ⟨restMem8 (a + 1) bs rest, .inr (.inr (hs _ _ _ h))⟩
    | mem16 a hs' =>
      cases hs' with
      | nil => simp only [hostOp] at h; cases h; exact ⟨rest, .inr (.inl ⟨s.hostReads, rfl⟩)⟩
      | cons b bs => exact ⟨restMem16 (a + 2) bs rest, .inr (.inr (hs _ _ _ h))⟩
    | memRd a => exact ⟨rest, .inr (.inl (hl _ _ _ h))⟩
    | busWr a v =>
      simp only [hostOp] at h
      split at h
      · refine ⟨rest, ?_⟩
        rcases hw _ _ _ h with hh | hh
        · exact .inl hh
        · exact .inr (.inl hh)
      · exact ⟨rest, .inr (.inr (hs _ _ _ h))⟩
    | busRd a =>
      simp only [hostOp] at h
      split at h
      · exact ⟨rest, .inr (.inl (hr _ _ h))⟩
      · exact ⟨rest, .inr (.inl (hl _ _ _ h))⟩
    | narrow off => simp only [hostOp] at h; cases h

/-! ## Engine reads -/

theorem memRead1_value_iff {s : State} {a : Word} {b : Byte} :
    memRead1 s a = .value b ↔ addrKind s.platform a = .plain ∧ byteAt s a = b := by
  unfold memRead1; split <;> simp_all

/-- A 2-byte read is the two 1-byte reads, the byte at a + 1 above the byte at a (R76). -/
theorem memRead2_value_iff {s : State} {a : Word} {v : Half} :
    memRead2 s a = .value v ↔ ∃ lo hi, memRead1 s a = .value lo ∧ memRead1 s (a + 1) = .value hi ∧ v = hi ++ lo := by
  unfold memRead2
  cases h1 : memRead1 s a <;> cases h2 : memRead1 s (a + 1) <;> simp [eq_comm]

/-- A read depends on memory and the platform alone. -/
theorem memRead1_congr {s t : State} (hm : t.mem = s.mem) (hp : t.platform = s.platform) (a : Word) :
    memRead1 t a = memRead1 s a := by simp [memRead1, byteAt, hm, hp]

theorem memRead2_congr {s t : State} (hm : t.mem = s.mem) (hp : t.platform = s.platform) (a : Word) :
    memRead2 t a = memRead2 s a := by simp [memRead2, memRead1_congr hm hp]

/-- A body's next action depends on the raster registers it reads alone (R104). -/
theorem nextAct_congr {s t : State} (ho : t.gfxOpc = s.gfxOpc) (hs : t.strPtr = s.strPtr) (h0 : t.font0 = s.font0)
    (h1 : t.font1 = s.font1) (h2 : t.font2 = s.font2) (c : Ctl) : nextAct c t = nextAct c s := by
  have hf : ∀ size, fontBase t size = fontBase s size := by intro size; simp [fontBase, h0, h1, h2]
  have hg : ∀ g, glyphBegin g t = glyphBegin g s := by intro g; simp [glyphBegin, hf]
  cases c <;>
    simp [nextAct, pixelBody, lineBody, rectBody, rectfBody, circleBody, charBody, stringBody, clearBody, lineLoopBody,
      lineEmit, circleLoopBody, circleEmit, stringCharBody, headerRowsBody, headerStrideBody, headerDoneBody,
      glyphRowBody, glyphEndBody, stringAddr, ho, hs, hf, hg]

/-! ## The sample rate (R203) -/

theorem tickPeriod_pos (s : State) : 0 < tickPeriod s := Nat.mul_pos (Nat.succ_pos _) (Nat.succ_pos _)

/-- The rate is exactly 8000 Hz just when the period is chosen as R203 says. -/
theorem sampleRate_eq_iff (s : State) : sampleRate s = (Config.sampleRateHz : Rat) ↔ requiredRateSet s = true := by
  have h : (tickPeriod s : Rat) ≠ 0 := Nat.cast_ne_zero.2 (tickPeriod_pos s).ne'
  rw [sampleRate, div_eq_iff h, ← Nat.cast_mul, Nat.cast_inj, requiredRateSet, beq_iff_eq, Nat.mul_comm (tickPeriod s)]
  exact eq_comm

/-- "If PCLK_HZ is not a multiple of 8000, no setting gives exactly 8000 Hz" (R203). -/
theorem sampleRate_ne_of_not_dvd {s : State} (h : ¬ Config.sampleRateHz ∣ s.platform.pclkHz) :
    sampleRate s ≠ (Config.sampleRateHz : Rat) := by
  intro hr
  have hp := beq_iff_eq.1 ((sampleRate_eq_iff s).1 hr)
  exact h ⟨tickPeriod s, by rw [← hp, Nat.mul_comm]⟩

/-- The converter's code where its field lies within DAC_DATA (R213). -/
theorem converterCode_of_le {s : State} (h : s.platform.dacCodeLo ≤ 22) :
    converterCode s = s.dacData.extractLsb' s.platform.dacCodeLo 10 :=
  if_pos (Nat.add_le_add_right h 10)

end Sys2Proof.Machine
end

