-- ==== Sys2Proof/Laws/Operands.lean ====
section
/-! SUPPORT. The operand checks as plain inequalities, the counts as numbers, and the sequencer's run over a group of
frames. -/

namespace Sys2Proof.Machine

/-! ## The checks of R232 -/

theorem inPanel_iff (x y : Int) : inPanel x y = true ↔ x ≤ 131 ∧ y ≤ 131 := by
  unfold inPanel
  rw [Bool.and_eq_true, decide_eq_true_iff, decide_eq_true_iff]
  exact Iff.rfl

theorem endsInPanel_iff (x0 y0 x1 y1 : Nat) :
    endsInPanel x0 y0 x1 y1 = true ↔ x0 ≤ 131 ∧ y0 ≤ 131 ∧ x1 ≤ 131 ∧ y1 ≤ 131 := by
  unfold endsInPanel
  rw [Bool.and_eq_true, inPanel_iff, inPanel_iff]
  omega

theorem circleInPanel_iff (x0 y0 r : Nat) :
    circleInPanel x0 y0 r = true ↔ r ≤ x0 ∧ r ≤ y0 ∧ x0 + r ≤ 131 ∧ y0 + r ≤ 131 := by
  unfold circleInPanel
  rw [Bool.and_eq_true, Bool.and_eq_true, decide_eq_true_iff, decide_eq_true_iff, inPanel_iff]
  omega

theorem codeValid_iff (code : Nat) : codeValid code = true ↔ 0x20 ≤ code ∧ code ≤ 0x7F := by
  unfold codeValid
  rw [Bool.and_eq_true, decide_eq_true_iff, decide_eq_true_iff]
  exact Iff.rfl

theorem headerValid_iff (h : GlyphHeader) :
    headerValid h = true ↔ (h.cols = 2 ∨ h.cols = 4 ∨ h.cols = 6 ∨ h.cols = 8) ∧ 1 ≤ h.rows ∧ h.rows ≤ h.stride := by
  simp [headerValid, or_assoc, and_assoc]

theorem glyphInPanel_iff (g : GlyphVars) (h : GlyphHeader) :
    glyphInPanel g h = true ↔ g.x + h.rows ≤ 132 ∧ g.y + h.cols ≤ 132 := by
  unfold glyphInPanel
  rw [inPanel_iff]
  omega

/-! ## The counts of R156 and R163 -/

theorem clearPairs_eq : clearPairs = 8712 := by decide

theorem fillPairs_eq (b : Box) : fillPairs b = (boxArea b + 1) / 2 + 130 := rfl

theorem pitch_of_small : pitch 0 = 6 := rfl

theorem pitch_of_other {size : BitVec 2} (h : size ≠ 0) : pitch size = 8 := if_neg h

/-! ## The sequencer's run -/

/-- An emission from a link at rest leaves it at rest: only the history grows. -/
theorem frameOut_of_linkIdle {s : State} (h : Sys2Proof.Safety.LinkIdle s) (f : Frame) :
    frameOut f s = { s with frames := s.frames ++ [f] } := by
  obtain ⟨h1, h2, h3, h4⟩ := h
  rw [frameOut_eq, ← h1, ← h2, ← h3, ← h4]

theorem rasterRun_succ {s t : State} (h : rasterStep s = .next t) (n : Nat) : rasterRun (n + 1) s = rasterRun n t := by
  simp [rasterRun, h]

/-- The frames of a group go out one a step, and then the rest of the body is next. -/
theorem rasterRun_group (fs : List Frame) (c : Ctl) (n : Nat) (s : State) (hi : Sys2Proof.Safety.LinkIdle s)
    (hq : s.seq = .running fs c) :
    rasterRun (fs.length + n) s = rasterRun n { s with seq := .running [] c, frames := s.frames ++ fs } := by
  induction fs generalizing s with
  | nil =>
    rw [List.length_nil, Nat.zero_add, List.append_nil, ← hq]
  | cons f fs ih =>
    have hi' : Sys2Proof.Safety.LinkIdle { s with seq := .running fs c } := hi
    have h := ih { s with seq := .running fs c, frames := s.frames ++ [f] } hi rfl
    rw [List.length_cons, Nat.add_right_comm, rasterRun_succ (rasterStep_of_group hq), frameOut_of_linkIdle hi']
    simpa only [List.append_assoc, List.singleton_append] using h

end Sys2Proof.Machine
end

