-- ==== Sys2Proof/Laws/PerInstr.lean ====
section
/-! SUPPORT. What holds of each instruction as syntax, one lemma per constructor. -/

namespace Sys2Proof.Laws

/-- An encoding carries the opcode `op` of the raster map (R103). -/
def rasterOp (op : BitVec 4) : Encoded → Prop
  | .raster d => fieldOp d = op
  | .audio _ => False

/-- An encoding carries OP = 0x5 with this FILL (R105). -/
def rasterFill (fill : Bool) : Encoded → Prop
  | .raster d => fieldOp d = 0x5 ∧ fieldFill d = fill
  | .audio _ => False

/-- An encoding carries the operation `op` of the audio control word (R110). -/
def controlOp (op : BitVec 2) : Encoded → Prop
  | .raster _ => False
  | .audio w => w.extractLsb' 0 2 = op

/-- The encoding carries the opcode that R103, R105, R106 and R110 give the instruction. -/
def EncodeOpcode.Statement (i : Instr) : Prop :=
  match i with
  | .nop => rasterOp 0x0 (encode i)
  | .lcmd _ => rasterOp 0x1 (encode i)
  | .ldat _ => rasterOp 0x2 (encode i)
  | .pixel _ _ _ => rasterOp 0x3 (encode i)
  | .line _ _ _ _ _ => rasterOp 0x4 (encode i)
  | .rect _ _ _ _ _ => rasterFill false (encode i)
  | .rectf _ _ _ _ _ => rasterFill true (encode i)
  | .circle _ _ _ _ => rasterOp 0x6 (encode i)
  | .char _ _ _ _ _ _ => rasterOp 0x7 (encode i)
  | .string _ _ _ _ _ => rasterOp 0x8 (encode i)
  | .clear => rasterOp 0x9 (encode i)
  | .reservedA => rasterOp 0xA (encode i)
  | .reservedB => rasterOp 0xB (encode i)
  | .reservedC => rasterOp 0xC (encode i)
  | .reservedD => rasterOp 0xD (encode i)
  | .reservedE => rasterOp 0xE (encode i)
  | .reservedF => rasterOp 0xF (encode i)
  | .audNop => controlOp 0 (encode i)
  | .arm => controlOp 1 (encode i)
  | .play => controlOp 2 (encode i)
  | .stop => controlOp 3 (encode i)

theorem EncodeOpcode.nop : Statement .nop := fieldOp_mkDescriptor ..
theorem EncodeOpcode.lcmd (byte : Byte) : Statement (.lcmd byte) := fieldOp_mkDescriptor ..
theorem EncodeOpcode.ldat (byte : Byte) : Statement (.ldat byte) := fieldOp_mkDescriptor ..
theorem EncodeOpcode.pixel (x y : Nat) (color : Colour) : Statement (.pixel x y color) := fieldOp_mkDescriptor ..
theorem EncodeOpcode.line (x0 y0 x1 y1 : Nat) (color : Colour) : Statement (.line x0 y0 x1 y1 color) :=
  fieldOp_mkDescriptor ..
theorem EncodeOpcode.rect (x0 y0 x1 y1 : Nat) (color : Colour) : Statement (.rect x0 y0 x1 y1 color) :=
  ⟨fieldOp_mkDescriptor .., fieldFill_mkDescriptor ..⟩
theorem EncodeOpcode.rectf (x0 y0 x1 y1 : Nat) (color : Colour) : Statement (.rectf x0 y0 x1 y1 color) :=
  ⟨fieldOp_mkDescriptor .., fieldFill_mkDescriptor ..⟩
theorem EncodeOpcode.circle (x0 y0 radius : Nat) (color : Colour) : Statement (.circle x0 y0 radius color) :=
  fieldOp_mkDescriptor ..
theorem EncodeOpcode.char (x y code : Nat) (size : BitVec 2) (fg bg : Colour) : Statement (.char x y code size fg bg) :=
  fieldOp_mkDescriptor ..
theorem EncodeOpcode.string (x y : Nat) (size : BitVec 2) (fg bg : Colour) : Statement (.string x y size fg bg) :=
  fieldOp_mkDescriptor ..
theorem EncodeOpcode.clear : Statement .clear := fieldOp_mkDescriptor ..
theorem EncodeOpcode.reservedA : Statement .reservedA := fieldOp_mkDescriptor ..
theorem EncodeOpcode.reservedB : Statement .reservedB := fieldOp_mkDescriptor ..
theorem EncodeOpcode.reservedC : Statement .reservedC := fieldOp_mkDescriptor ..
theorem EncodeOpcode.reservedD : Statement .reservedD := fieldOp_mkDescriptor ..
theorem EncodeOpcode.reservedE : Statement .reservedE := fieldOp_mkDescriptor ..
theorem EncodeOpcode.reservedF : Statement .reservedF := fieldOp_mkDescriptor ..
theorem EncodeOpcode.audNop : Statement .audNop := rfl
theorem EncodeOpcode.arm : Statement .arm := rfl
theorem EncodeOpcode.play : Statement .play := rfl
theorem EncodeOpcode.stop : Statement .stop := rfl

end Sys2Proof.Laws
end

