-- ==== Sys2Proof/Tests/Slice0.lean ====
section
/-! SUPPORT. Tests: expected values from spec/95_test_vectors.md (the vector's name is in each docstring) or written out
from a numbered rule; and, for every statement with hypotheses, witnesses that meet them. -/

namespace Sys2Proof.Tests

open Sys2Proof.Machine Sys2Proof.Safety

/-! ## Helpers -/

/-- A platform for the tests: plain memory below 0x10000, one device at 0x20000, the window at 0x10000000. -/
def plat : Platform where
  basePage := 0x100000
  pclkHz := 12000000
  dacCodeLo := 6
  rstPulseMin := 0
  rstRecovery := 0
  regions := [{ base := 0, size := 0x10000, kind := .plain }, { base := 0x20000, size := 0x100, kind := .device }]

/-- Reset on that platform, with memory as the glyph, string and audio vectors have it: the SMALL header and 'A' at 0x1000,
"A" at 0x3000, the samples at 0x2000. -/
def s0 : State :=
  { State.reset with
    platform := plat
    mem := [(0x1000, 6), (0x1001, 8), (0x1002, 8), (0x1111, 0x84), (0x1112, 0x84), (0x1113, 0xFC), (0x1114, 0x84),
      (0x1115, 0x84), (0x1116, 0x48), (0x1117, 0x30), (0x2002, 0x34), (0x2003, 0x12), (0x2004, 0xFF), (0x2005, 0xFF),
      (0x2006, 0xFF), (0x2007, 0x03), (0x3000, 0x41)]
    font0 := 0x1000
    strPtr := 0x3000 }

/-- A CLEAR just launched. -/
def sBusy : State := launched .clear { s0 with cmdHi := 0x90000000 }

/-- Armed, four samples at 0x2000 (V-A11). -/
def sArmed : State := { s0 with audState := .armed, dacEn := true, tmrMr := 2, audPtr := 0x2000, audCnt := 4 }

/-- Streaming them, the timer just cleared. -/
def sStream : State := { sArmed with audState := .streaming }

/-- A field of the next state, if there is one. -/
def after {α : Type} (o : Host.Outcome State Fault Refusal) (f : State → α) : Option α :=
  match o with
  | .next t => some (f t)
  | .fault _ => none
  | .refused _ => none

/-- The refusal, if the step is refused. -/
def refusal (o : Host.Outcome State Fault Refusal) : Option Refusal :=
  match o with
  | .next _ => none
  | .fault _ => none
  | .refused r => some r

/-- s once its last sample, at 0x2006, is played (V-A11). -/
def servedLastSample (s : State) : State := playSample 0x03FF { s with mr0 := true, audPtr := 0x2006, audCnt := 1 }

/-! ## WellFormed smoke: an ill-formed term for each check -/

theorem test_illformed_pixel : (Instr.pixel 256 0 0).wellFormed = false ∧ (Instr.pixel 0 256 0).wellFormed = false := by decide
theorem test_illformed_line : (Instr.line 256 0 0 0 0).wellFormed = false ∧ (Instr.line 0 256 0 0 0).wellFormed = false ∧
    (Instr.line 0 0 256 0 0).wellFormed = false ∧ (Instr.line 0 0 0 256 0).wellFormed = false := by decide
theorem test_illformed_rect : (Instr.rect 256 0 0 0 0).wellFormed = false ∧ (Instr.rect 0 256 0 0 0).wellFormed = false ∧
    (Instr.rect 0 0 256 0 0).wellFormed = false ∧ (Instr.rect 0 0 0 256 0).wellFormed = false := by decide
theorem test_illformed_rectf : (Instr.rectf 256 0 0 0 0).wellFormed = false ∧ (Instr.rectf 0 256 0 0 0).wellFormed = false ∧
    (Instr.rectf 0 0 256 0 0).wellFormed = false ∧ (Instr.rectf 0 0 0 256 0).wellFormed = false := by decide
theorem test_illformed_circle : (Instr.circle 256 0 0 0).wellFormed = false ∧ (Instr.circle 0 256 0 0).wellFormed = false ∧
    (Instr.circle 0 0 256 0).wellFormed = false := by decide
theorem test_illformed_char : (Instr.char 256 0 0 0 0 0).wellFormed = false ∧
    (Instr.char 0 256 0 0 0 0).wellFormed = false ∧ (Instr.char 0 0 256 0 0 0).wellFormed = false := by decide
theorem test_illformed_string : (Instr.string 256 0 0 0 0).wellFormed = false ∧
    (Instr.string 0 256 0 0 0).wellFormed = false := by decide

/-! ## Decoding: one word written out for each constructor (R101, R103, R110) -/

/-- V-K3's word; and OP = 0 with every other bit 1 (R107). -/
theorem test_decode_nop : decodeTableWord 64 0 = some .nop ∧ decodeTableWord 64 0x0FFFFFFFFFFFFFFF = some .nop := by decide
/-- V-K1, V-K4. -/
theorem test_decode_lcmd : decodeTableWord 64 0x10000000000000AF = some (.lcmd 0xAF) ∧
    decodeTableWord 64 0x1FFFFFFF123456FF = some (.lcmd 0xFF) := by decide
/-- V-K2, and A = 0x5A. -/
theorem test_decode_ldat : decodeTableWord 64 0x2000000000000000 = some (.ldat 0) ∧
    decodeTableWord 64 0x200000000000005A = some (.ldat 0x5A) := by decide
/-- V-P1, V-P4. -/
theorem test_decode_pixel : decodeTableWord 64 0x30000F000000140A = some (.pixel 10 20 0xF00) ∧
    decodeTableWord 64 0x39ABC0F000000201 = some (.pixel 1 2 0x0F0) := by decide
/-- V-L5 with COLOR 0x123. -/
theorem test_decode_line : decodeTableWord 64 0x4000012304010205 = some (.line 5 2 1 4 0x123) := by decide
/-- V-R1, and OP = 0x5 with FILL = 0 and every other unused bit 1. -/
theorem test_decode_rect : decodeTableWord 64 0x50000FFF02020000 = some (.rect 0 0 2 2 0xFFF) ∧
    decodeTableWord 64 0x5EFFFFFF04030201 = some (.rect 1 2 3 4 0xFFF) := by decide
/-- V-RF1. -/
theorem test_decode_rectf : decodeTableWord 64 0x510000F001000302 = some (.rectf 2 3 0 1 0x0F0) := by decide
/-- V-C3 with COLOR 0x0AB; and distinct operands (R101, R104). -/
theorem test_decode_circle : decodeTableWord 64 0x600000AB00021414 = some (.circle 20 20 2 0x0AB) ∧
    decodeTableWord 64 0x600000AB0003140A = some (.circle 10 20 3 0x0AB) := by decide
/-- V-CH1, V-CH5. -/
theorem test_decode_char : decodeTableWord 64 0x70FFF00000410000 = some (.char 0 0 0x41 0 0x000 0xFFF) ∧
    decodeTableWord 64 0x7600000000410000 = some (.char 0 0 0x41 3 0 0) ∧
    decodeTableWord 64 0x7445612300413412 = some (.char 0x12 0x34 0x41 2 0x123 0x456) := by decide
/-- V-S1; and V-S8 with SIZE = MEDIUM, COLOR = 0x123, BG = 0x456. -/
theorem test_decode_string : decodeTableWord 64 0x80FFF00000000000 = some (.string 0 0 0 0x000 0xFFF) ∧
    decodeTableWord 64 0x8245612300007800 = some (.string 0 120 1 0x123 0x456) := by decide
/-- V-CL2. -/
theorem test_decode_clear : decodeTableWord 64 0x9045612300000000 = some .clear := by decide
/-- V-E1, V-E4 and the four between (R106). -/
theorem test_decode_reserved : decodeTableWord 64 0xA000000000000000 = some .reservedA ∧
    decodeTableWord 64 0xB000000000000000 = some .reservedB ∧ decodeTableWord 64 0xC000000000000000 = some .reservedC ∧
    decodeTableWord 64 0xD000000000000000 = some .reservedD ∧ decodeTableWord 64 0xE000000000000000 = some .reservedE ∧
    decodeTableWord 64 0xF0000FFF00000000 = some .reservedF := by decide
/-- R110, with bits 31..2 set. -/
theorem test_decode_audio : decodeTableWord 32 0xFFFFFFFC = some .audNop ∧ decodeTableWord 32 0x1 = some .arm ∧
    decodeTableWord 32 0x2 = some .play ∧ decodeTableWord 32 0xFFFFFFFF = some .stop := by decide
/-- A byte list too short for its format is refused by name. -/
theorem test_decode_truncated : (decodeBytes .raster [0, 0, 0, 0, 0, 0, 0]).isOk = false ∧
    (decodeBytes .audio [1, 0, 0]).isOk = false ∧ decodeTableWord 65 0 = none := by decide
/-- The encoder's words are those of 95_test_vectors.md (V-P1, V-CH1, V-L5). -/
theorem test_encode : encode (.pixel 10 20 0xF00) = .raster 0x30000F000000140A ∧
    encode (.char 0 0 0x41 0 0x000 0xFFF) = .raster 0x70FFF00000410000 ∧
    encode (.line 5 2 1 4 0) = .raster 0x4000000004010205 := by decide

/-! ## The step after withFetchWord runs the instruction -/

/-- V-A1 as the first step after reset. -/
theorem test_fetch_arm : after (step (State.reset.withFetchWord 32 1)) (fun t => (t.audState, t.dacEn)) =
    some (.armed, true) := by decide
/-- V-E1 as the first step after reset: GFX_STATUS = 0x22. -/
theorem test_fetch_reserved : after (step (State.reset.withFetchWord 64 0xA000000000000000)) gfxStatus = some 0x22 := by
  decide
/-- V-P1 as the first step after reset: latched, Running. -/
theorem test_fetch_pixel : after (step (State.reset.withFetchWord 64 0x30000F000000140A))
    (fun t => (t.latched, t.seq)) = some (0x30000F000000140A, .running [] (.pixel 10 20 0xF00)) := by decide

/-! ## One step of an instruction, against the vectors -/

/-- V-K3: BUSY never 1. -/
theorem test_nop : after (exec .nop s0) gfxStatus = some 0 := by decide
/-- V-K1: the one frame. -/
theorem test_lcmd : after (rasterStep (launched (.lcmd 0xAF) s0)) (·.frames) = some [0x0AF] := by decide
/-- V-K2. -/
theorem test_ldat : after (rasterStep (launched (.ldat 0) s0)) (·.frames) = some [0x100] := by decide
/-- V-P1: the frames. -/
theorem test_pixel_frames : (refBody (.pixel 10 20 0xF00) s0).frames =
    [0x075, 0x10A, 0x10A, 0x015, 0x114, 0x114, 0x05C, 0x1F0, 0x10F, 0x100] := by decide
/-- V-P3: error 3. -/
theorem test_pixel_range : after (rasterStep (launched (.pixel 132 0 0xFFF) s0)) gfxStatus = some 0x32 := by decide
/-- V-L1, V-L2 (the same points), V-L5. -/
theorem test_line_x : linePoints 4 1 0 0 = [(0, 0), (1, 0), (2, 0), (3, 1), (4, 1)] ∧
    linePoints 5 2 1 4 = [(1, 4), (2, 4), (3, 3), (4, 3), (5, 2)] := by decide
/-- V-L3, V-L4 (a tie), V-L9. -/
theorem test_line_y : linePoints 0 0 1 4 = [(0, 0), (0, 1), (0, 2), (1, 3), (1, 4)] ∧
    linePoints 0 0 3 3 = [(0, 0), (1, 1), (2, 2), (3, 3)] ∧
    linePoints 0 5 2 0 = [(2, 0), (2, 1), (1, 2), (1, 3), (0, 4), (0, 5)] := by decide
/-- V-R1: the points in order. -/
theorem test_rect : rectPoints 0 0 2 2 = [(0, 0), (1, 0), (2, 0), (0, 2), (1, 2), (2, 2), (0, 0), (0, 1), (0, 2), (2, 0),
    (2, 1), (2, 2)] := by decide
/-- V-RF1: the window's first frame and the pairs to stream; V-RF2, V-RF3. -/
theorem test_rectf : after (rasterStep (launched (.rectf 2 3 0 1 0x0F0) s0)) (fun t => (t.frames, t.seq)) =
      some ([0x075], .running [0x100, 0x102, 0x015, 0x101, 0x103, 0x05C] (.fillLoop 0x0F0 135)) ∧
    fillPairs (boundingBox 5 5 5 5) = 131 ∧ fillPairs (boundingBox 0 0 131 131) = 8842 := by decide
/-- V-C2: the points in order. -/
theorem test_circle : circlePoints 10 10 1 = [(10, 11), (10, 9), (11, 10), (9, 10), (11, 10), (9, 10), (11, 10), (9, 10),
    (10, 11), (10, 11), (10, 9), (10, 9)] := by decide
/-- V-C3: the points in order. -/
theorem test_circle_two : circlePoints 20 20 2 = [(20, 22), (20, 18), (22, 20), (18, 20), (21, 22), (19, 22), (21, 18),
    (19, 18), (22, 21), (18, 21), (22, 19), (18, 19), (22, 21), (18, 21), (22, 19), (18, 19), (21, 22), (19, 22), (21, 18),
    (19, 18)] := by decide
/-- V-CL1: the window's first frame and the pairs to stream. -/
theorem test_clear : after (rasterStep (launched .clear s0)) (fun t => (t.frames, t.seq)) =
    some ([0x075], .running [0x100, 0x183, 0x015, 0x100, 0x183, 0x05C] (.fillLoop 0xFFF 8712)) := by decide
/-- V-CH1: the reads, and the frames of the window and of rows 0 and 1. -/
theorem test_char : (refBody (.char 0 0 0x41 0 0x000 0xFFF) s0).reads =
      [0x1000, 0x1001, 0x1002, 0x1117, 0x1116, 0x1115, 0x1114, 0x1113, 0x1112, 0x1111, 0x1110] ∧
    (refBody (.char 0 0 0x41 0 0x000 0xFFF) s0).frames.take 25 =
      [0x075, 0x100, 0x107, 0x015, 0x100, 0x105, 0x05C,
       0x1FF, 0x1FF, 0x1FF, 0x100, 0x100, 0x100, 0x1FF, 0x1FF, 0x1FF,
       0x1FF, 0x1F0, 0x100, 0x1FF, 0x1FF, 0x1FF, 0x100, 0x10F, 0x1FF] := by decide
/-- V-CH3 to V-CH6: the first failing check. -/
theorem test_char_errors : after (rasterStep (launched (.char 0 0 0x1F 0 0 0) s0)) gfxStatus = some 0x52 ∧
    after (rasterStep (launched (.char 0 0 0x80 0 0 0) s0)) gfxStatus = some 0x52 ∧
    after (rasterStep (launched (.char 0 0 0x41 3 0 0) s0)) gfxStatus = some 0x42 ∧
    after (rasterStep (launched (.char 200 0 0x1F 3 0 0) s0)) gfxStatus = some 0x32 := by decide
/-- V-S9: one 'A' at the last columns, and no read after it. -/
theorem test_string : (refBody (.string 0 126 0 0x000 0xFFF) s0).reads.length = 12 ∧
    (refBody (.string 0 126 0 0x000 0xFFF) s0).frames.length = 79 := by decide
/-- V-S3: an empty string makes no size check. -/
theorem test_string_empty : refBody (.string 0 0 3 0 0) { s0 with strPtr := 0x3001 } =
    { frames := [], reads := [0x3001], result := .done } := by decide
/-- V-E1, V-E2: the record keeps the first error. -/
theorem test_reserved : after (exec .reservedA s0) gfxStatus = some 0x22 ∧
    after (exec .reservedF { s0 with gfxErr := some .range }) gfxStatus = some 0x32 := by decide
/-- R110: no operation. -/
theorem test_audNop : after (exec .audNop sStream) audStatus = some 0x102 := by decide
/-- V-A1, V-A9. -/
theorem test_arm : after (exec .arm s0) audStatus = some 0x101 ∧ after (exec .arm sStream) audStatus = some 0x12A := by
  decide
/-- V-A2, V-A4, V-A5, V-A6, V-A7. -/
theorem test_play_errors : after (exec .play s0) audStatus = some 0x018 ∧
    after (exec .play { sArmed with audCnt := 0 }) audStatus = some 0x139 ∧
    after (exec .play { sArmed with audPtr := 0x2001 }) audStatus = some 0x149 ∧
    after (exec .play { sArmed with audPtr := 0x2001, audCnt := 0 }) audStatus = some 0x139 ∧
    after (exec .play sStream) audStatus = some 0x12A := by decide
/-- V-A17. -/
theorem test_play : after (exec .play { sArmed with done := true }) audStatus = some 0x102 := by decide
/-- V-A3, V-A12. -/
theorem test_stop : after (exec .stop s0) audStatus = some 0 ∧
    after (exec .stop { sStream with tmrTc := 2, mr0 := true }) (fun t => (audStatus t, t.audPtr, t.tmrTc, t.mr0)) =
      some (0x101, 0x2000, 0, false) := by decide

/-! ## The other steps, against the vectors -/

/-- V-K5: bits 31..24 of GFX_OPC are reserved. -/
theorem test_gfxOpc : after (hostWrite 0x1C 0xAA2C2A2B s0) (readWindow 0x1C) = some 0x002C2A2B := by decide
/-- V-RS1 (LINK_CTRL, LINK_STATUS), V-E9. -/
theorem test_reset_reads : readWindow 0x20 State.reset = 0x0000FF01 ∧ readWindow 0x24 State.reset = 2 ∧
    readWindow 0x80 State.reset = 0 := by decide
/-- V-E5, V-E6, V-E7, V-E8. -/
theorem test_busy_writes : after (hostWrite 0x00 0x12345678 sBusy) (fun t => (t.cmdLo, gfxStatus t)) = some (0, 0x13) ∧
    after (hostWrite 0x04 0xA0000000 sBusy) gfxStatus = some 0x13 ∧
    after (hostWrite 0x40 1 sBusy) audStatus = some 0x101 ∧ after (hostWrite 0x08 3 sBusy) gfxStatus = some 0x01 := by decide
/-- V-A8, V-A18. -/
theorem test_stream_writes : after (hostWrite 0x48 0 sStream) (fun t => (t.audPtr, audStatus t)) = some (0x2000, 0x12A) ∧
    after (hostWrite 0x64 0x8000 sArmed) (·.dacHist) = some [0x8000] := by decide
/-- V-A11's second service, and its last. -/
theorem test_service : after (serviceStep { sStream with mr0 := true, audPtr := 0x2002, audCnt := 3 })
      (fun t => (t.dacData, t.audPtr, t.audCnt, audStatus t)) = some (0x00048D00, 0x2004, 2, 0x102) ∧
    after (serviceStep { sStream with mr0 := true, audPtr := 0x2006, audCnt := 1 })
      (fun t => (t.dacData, t.audPtr, t.audCnt, audStatus t)) = some (0x0000FFC0, 0, 0, 0x105) := by decide
/-- V-T2: the fourth cycle ticks. -/
theorem test_timer : (fun t : State => (t.tmrPc, t.tmrTc, t.mr0))
    (timerCycle { sStream with tmrPr := 1, tmrMr := 1, tmrPc := 1, tmrTc := 1 }) = (0, 0, true) := by decide
/-- V-E10: a header that is not backed leaves the command where it is; one in a device is refused. -/
theorem test_unbacked : after (rasterStep (launched (.char 0 0 0x41 0 0 0) { s0 with font0 := 0x00F00000 })) gfxStatus =
      some 0x01 ∧
    refusal (rasterStep (launched (.char 0 0 0x41 0 0 0) { s0 with font0 := 0x20000 })) = some (.deviceRead 0x20000) := by
  decide
/-- MEM16 is little-endian (R113), and a written 0x00 keeps the canonical form. -/
theorem test_mem16 : after (hostOp (.mem16 0x4000 [0xBEEF]) s0) (fun t => (byteAt t 0x4000, byteAt t 0x4001)) =
      some (0xEF, 0xBE) ∧
    after (hostOp (.mem8 0x3000 [0]) s0) (fun t => (t.mem.wf, byteAt t 0x3000)) = some (true, 0) := by decide
/-- L1-11's period; and a PCLK_HZ that is no multiple of 8000, where no setting is the required one (R203). -/
theorem test_sampleRate : tickPeriod { sArmed with tmrMr := 1499 } = 1500 ∧
    requiredRateSet { sArmed with tmrMr := 1499 } = true ∧
    requiredRateSet { sArmed with tmrMr := 1499, platform := { plat with pclkHz := 12000001 } } = false := by decide
/-- R7: DAC_CODE_LO is 6 where the platform does not give it. -/
theorem test_dacCodeLo_default : ({ basePage := 0, pclkHz := 0, rstPulseMin := 0, rstRecovery := 0, regions := [] } :
    Platform).dacCodeLo = 6 := by decide
/-- R240, the completing service first (log 28): Armed; a PLAY without a new count is error 3, one with it starts. -/
theorem test_complete_then_play :
    after (exec .play (servedLastSample sStream)) audStatus = some 0x13D ∧
    after (exec .play { servedLastSample sStream with audPtr := 0x2000, audCnt := 4 }) audStatus = some 0x102 := by decide
/-- L1-1: Pair(0xABC, 0x123); the reference controller unpacks it (L1-2). -/
theorem test_pair : pairFrames 0xABC 0x123 = [0x1AB, 0x1C1, 0x123] := by decide
/-- P1's second write of LINK_CTRL: CLKDIV 7, RST_N 1. -/
theorem test_linkCtrl : after (hostWrite 0x20 0x00000701 s0) (fun t => (t.clkDiv, displayResetLine t, readWindow 0x20 t)) =
    some (7, true, 0x00000701) := by decide

/-- P1's and P3's host steps: the pulse, and AINIT 0, 2. -/
theorem test_program : displayReset 7 = [.wr 0x20 0x00000700, .wr 0x20 0x00000701] ∧
    ainit 0 2 = [.wr 0x50 0, .wr 0x54 2, .wr 0x40 1] ∧
    gCommand (.pixel 10 20 0xF00) = [.wr 0x00 0x0000140A, .wr 0x04 0x30000F00, .wait 0x08 1 0] := by decide

/-- R264, step 4: the pulse, then GFX_OPC if it is to differ, then the controller's commands. -/
theorem test_bootOrder : (bootOrder 7 (some 0x002C2A2B) [.lcmd 0xAF] [] 0 0 0 0 2 0x2000 []).take 4 =
      [.wr 0x20 0x00000700, .wr 0x20 0x00000701, .wr 0x1C 0x002C2A2B, .wr 0x00 0x000000AF] ∧
    (bootOrder 7 none [.lcmd 0xAF] [] 0 0 0 0 2 0x2000 []).take 3 =
      [.wr 0x20 0x00000700, .wr 0x20 0x00000701, .wr 0x00 0x000000AF] := by decide

/-! ## Witnesses: for each statement with hypotheses, states and operands that meet all of them -/

/-- s0 with a schedule and a host program. -/
def sTurn (turn : Turn) (ops : List HostOp) : State := { s0 with sched := [turn], host := ops }

theorem witness_ResetInputRestoresTheBlock : (sTurn .reset []).sched = .reset :: [] := rfl

theorem witness_EveryStepKeepsTheInvariant : ∃ s t, MachineInvariant s ∧ s.audState = .streaming ∧ step s = .next t ∧
    t.mr0 = true := by
  refine ⟨{ sStream with sched := [.timer], tmrTc := 2 }, _, ?_, rfl, rfl, rfl⟩
  unfold MachineInvariant LinkIdle LatchedAgrees StoppedTimerClear CountersBounded StreamSound DacEnabledOnceArmed
  decide

/-- Descriptors of each row of the table, CHAR's with every field different. -/
theorem witness_SpecWordsDecode : (0x7445612300413412#64).extractLsb' 60 4 = 0x7 ∧
    0x12 = ((0x7445612300413412#64).extractLsb' 0 8).toNat ∧ 0x34 = ((0x7445612300413412#64).extractLsb' 8 8).toNat ∧
    0x41 = ((0x7445612300413412#64).extractLsb' 16 8).toNat ∧ 0 = ((0x7445612300413412#64).extractLsb' 24 8).toNat ∧
    0x123 = (0x7445612300413412#64).extractLsb' 32 12 ∧ 0x456 = (0x7445612300413412#64).extractLsb' 44 12 ∧
    2 = (0x7445612300413412#64).extractLsb' 57 2 := by decide

theorem witness_EncodedInstructionsDecodeBack : (Instr.char 255 0 255 3 0xFFF 0x001).wellFormed = true ∧
    (Instr.line 0 255 255 0 0xABC).wellFormed = true := by decide

/-- NOP: only OP agrees; LINE: BG, FILL, SIZE and D[59] differ; STRING: C and E differ. -/
theorem witness_UnusedFieldsAreIgnored :
    fieldOp 0x0FFFFFFFFFFFFFFF = fieldOp 0 ∧
    (fieldOp 0x4000012304010205 = fieldOp 0x4FFFF12304010205 ∧ fieldA 0x4000012304010205 = fieldA 0x4FFFF12304010205 ∧
      fieldB 0x4000012304010205 = fieldB 0x4FFFF12304010205 ∧ fieldC 0x4000012304010205 = fieldC 0x4FFFF12304010205 ∧
      fieldE 0x4000012304010205 = fieldE 0x4FFFF12304010205 ∧ fieldColor 0x4000012304010205 = fieldColor 0x4FFFF12304010205) ∧
    (fieldOp 0x8245612300007800 = fieldOp 0x82456123FFFF7800 ∧ fieldBg 0x8245612300007800 = fieldBg 0x82456123FFFF7800 ∧
      fieldSize 0x8245612300007800 = fieldSize 0x82456123FFFF7800) ∧
    (0xFFFFFFFD#32).extractLsb' 0 2 = (1#32).extractLsb' 0 2 := by decide

theorem witness_FillSelectsTheRectangle :
    (fieldOp 0x510000F001000302 = 0x5 ∧ fieldFill 0x510000F001000302 = true) ∧
    (fieldOp 0x50000FFF02020000 = 0x5 ∧ fieldFill 0x50000FFF02020000 = false) ∧ fieldOp 0x4000000001040000 ≠ 0x5 := by
  decide

theorem witness_StepRunsTheWrittenCommand :
    ((sTurn .host [.wr 0x04 0x30000F00]).sched = .host :: [] ∧
      (sTurn .host [.wr 0x04 0x30000F00]).host = .wr 0x04 0x30000F00 :: [] ∧
      gfxBusy (sTurn .host [.wr 0x04 0x30000F00]) = false) ∧
    (sTurn .host [.busWr 0x10000004 0x30000F00]).host =
      .busWr (windowAddr (sTurn .host [.busWr 0x10000004 0x30000F00]).platform 0x04) 0x30000F00 :: [] ∧
    (sTurn .host [.wr 0x40 1]).host = .wr 0x40 1 :: [] ∧
    (sTurn .host [.busWr 0x10000040 1]).host =
      .busWr (windowAddr (sTurn .host [.busWr 0x10000040 1]).platform 0x40) 1 :: [] := by decide

theorem witness_StepRunsTheWrittenCommand_turns : (sTurn .raster []).sched = .raster :: [] ∧
    (sTurn .timer []).sched = .timer :: [] ∧ (sTurn .service []).sched = .service :: [] ∧
    ((sTurn .host []).sched = .host :: [] ∧ (sTurn .host []).host = []) ∧
    (sTurn .host [.rd 0x08]).host = .rd 0x08 :: [] ∧ s0.sched = [] := by decide

theorem witness_FetchedWordRuns : decodeTableWord 32 2 = some .play ∧
    decodeTableWord 33 0x30000F000000140A = some (.pixel 10 20 0xF00) ∧
    decodeTableWord 64 0x30000F000000140A = some (.pixel 10 20 0xF00) := by decide

theorem witness_NopDoesNothing : fieldOp 0x0FFFFFFFFFFFFFFF = 0 ∧ gfxBusy s0 = false := by decide

theorem witness_LinkCommandsEmitOneFrame : fieldOp 0x1FFFFFFF123456FF = 0x1 ∧ fieldOp 0x200000000000005A = 0x2 ∧
    gfxBusy s0 = false ∧ LinkIdle s0 := ⟨by decide, by decide, rfl, rfl, rfl, rfl, rfl⟩

/-- The panel's last corner, and its first. -/
theorem witness_PixelEmitsTenFrames : gfxBusy s0 = false ∧ LinkIdle s0 ∧ 131 ≤ 131 ∧ 0 ≤ 131 :=
  ⟨rfl, ⟨rfl, rfl, rfl, rfl⟩, by decide, by decide⟩

/-- V-L10: x0 = 0, y0 = 131, x1 = 131, y1 = 0. -/
theorem witness_LineDrawsItsPoints : gfxBusy s0 = false ∧ LinkIdle s0 ∧ 0 ≤ 131 ∧ 131 ≤ 131 ∧ 131 ≤ 131 ∧ 0 ≤ 131 :=
  ⟨rfl, ⟨rfl, rfl, rfl, rfl⟩, by decide, by decide, by decide, by decide⟩

/-- V-R1: 0, 0, 2, 2. -/
theorem witness_RectDrawsFourSegments : gfxBusy s0 = false ∧ LinkIdle s0 ∧ 0 ≤ 131 ∧ 0 ≤ 131 ∧ 2 ≤ 131 ∧ 2 ≤ 131 :=
  ⟨rfl, ⟨rfl, rfl, rfl, rfl⟩, by decide, by decide, by decide, by decide⟩

/-- V-RF3: 0, 0, 131, 131. -/
theorem witness_RectfStreamsItsBox : gfxBusy s0 = false ∧ LinkIdle s0 ∧ 0 ≤ 131 ∧ 0 ≤ 131 ∧ 131 ≤ 131 ∧ 131 ≤ 131 :=
  ⟨rfl, ⟨rfl, rfl, rfl, rfl⟩, by decide, by decide, by decide, by decide⟩

/-- V-C6: 65, 65, 65, "largest legal radius"; and radius 0 at the origin. -/
theorem witness_CircleDrawsItsPoints : gfxBusy s0 = false ∧ LinkIdle s0 ∧
    (65 ≤ 65 ∧ 65 ≤ 65 ∧ 65 + 65 ≤ 131 ∧ 65 + 65 ≤ 131) ∧ (0 ≤ 0 ∧ 0 + 0 ≤ 131) :=
  ⟨rfl, ⟨rfl, rfl, rfl, rfl⟩, by decide, by decide⟩

theorem witness_ClearStreamsWhitePairs : gfxBusy s0 = false ∧ LinkIdle s0 := ⟨rfl, rfl, rfl, rfl, rfl⟩

/-- V-CH8, 'A' at the panel's corner: x = 124, y = 126, SMALL. -/
theorem witness_CharDrawsItsGlyph : gfxBusy s0 = false ∧ LinkIdle s0 ∧ 124 ≤ 131 ∧ 126 ≤ 131 ∧ (0 : BitVec 2) ≠ 3 ∧
    (0x1000 : Word) = (if (0 : BitVec 2) = 0 then s0.font0 else if (0 : BitVec 2) = 1 then s0.font1 else s0.font2) ∧
    0x20 ≤ 0x41 ∧ 0x41 ≤ 0x7F ∧
    memRead1 s0 0x1000 = .value 6 ∧ memRead1 s0 (0x1000 + 1) = .value 8 ∧ memRead1 s0 (0x1000 + 2) = .value 8 ∧
    (6#8).toNat ∈ [2, 4, 6, 8] ∧ 1 ≤ (8#8).toNat ∧ (8#8).toNat ≤ (8#8).toNat ∧
    124 + (8#8).toNat ≤ 132 ∧ 126 + (6#8).toNat ≤ 132 ∧
    ∀ k, k < (8#8).toNat →
      memRead1 s0 (0x1000 + BitVec.ofNat 32 ((8#8).toNat * (0x41 - 0x1F) + ((8#8).toNat - 1 - k))) =
        .value (byteAt s0 (0x1000 + BitVec.ofNat 32 ((8#8).toNat * (0x41 - 0x1F) + ((8#8).toNat - 1 - k)))) :=
  ⟨rfl, ⟨rfl, rfl, rfl, rfl⟩, by decide, by decide, by decide, by decide, by decide, by decide, by decide, by decide,
    by decide, by decide, by decide, by decide, by decide, by decide, by decide⟩

/-- The glyph 'A' of the string vectors at a column, in state s. -/
def glyphAIn (s : State) (y : Nat) : BodyRun :=
  refGlyph s { x := 0, y := y, code := 0x41, size := 0, fg := 0x000, bg := 0xFFF, index := none } refDone

/-- The same in s0. -/
def glyphA (y : Nat) : BodyRun := glyphAIn s0 y

/-- "A" at column 0 with its 0x00 (V-S1's first character), m = 1. -/
theorem witness_StringDrawsItsCharacters : gfxBusy s0 = false ∧ LinkIdle s0 ∧ 0 ≤ 131 ∧
    (∀ k, k < 1 → 0 + k * (if (0 : BitVec 2) = 0 then 6 else 8) ≤ 131 ∧ (0x41 : Byte) ≠ 0 ∧
      memRead1 s0 (s0.strPtr + BitVec.ofNat 32 k) = .value 0x41 ∧
      (glyphA (0 + k * (if (0 : BitVec 2) = 0 then 6 else 8))).result = .done) ∧
    (0 + 1 * (if (0 : BitVec 2) = 0 then 6 else 8) ≤ 131 ∧ memRead1 s0 (s0.strPtr + BitVec.ofNat 32 1) = .value 0) :=
  ⟨rfl, ⟨rfl, rfl, rfl, rfl⟩, by decide, by decide, by decide⟩

/-- V-S9: "A" at column 126, the guard ends the string; and V-S2: the empty string, m = 0. -/
theorem witness_StringDrawsItsCharacters_guard_and_empty :
    (126 ≤ 131 ∧ (∀ k, k < 1 → 126 + k * 6 ≤ 131 ∧ memRead1 s0 (s0.strPtr + BitVec.ofNat 32 k) = .value 0x41 ∧
        (glyphA (126 + k * 6)).result = .done) ∧ ¬ 126 + 1 * 6 ≤ 131) ∧
    memRead1 { s0 with strPtr := 0x3001 } ({ s0 with strPtr := 0x3001 }.strPtr + BitVec.ofNat 32 0) = .value 0 := by decide

/-- One operand at 132 for each check, and a circle one past each edge. -/
theorem witness_RangeErrorsEmitNothing : gfxBusy s0 = false ∧ 131 < 132 ∧ 65 < 66 ∧ 131 < 66 + 66 := by decide

/-- V-CH5; V-CH3, V-CH4; V-CH10 to V-CH12 (one header for each failing test); V-CH7 and V-CH9. -/
theorem witness_CharReportsItsFirstFailingCheck : gfxBusy s0 = false ∧ 125 ≤ 131 ∧ 127 ≤ 131 ∧
    (0 : BitVec 2) ≠ 3 ∧ (0x1F < 0x20 ∧ 0x7F < 0x80) ∧ (0x20 ≤ 0x41 ∧ 0x41 ≤ 0x7F) ∧
    (memRead1 s0 (fontBase s0 0) = .value 6 ∧ memRead1 s0 (fontBase s0 0 + 1) = .value 8 ∧
      memRead1 s0 (fontBase s0 0 + 2) = .value 8) ∧
    ((6#8).toNat ∈ [2, 4, 6, 8] ∧ 8#8 ≠ 0 ∧ (8#8).toNat ≤ (8#8).toNat ∧ 131 < 125 + (8#8).toNat - 1 ∧
      131 < 127 + (6#8).toNat - 1) ∧
    ((7#8).toNat ∉ [2, 4, 6, 8] ∧ memRead1 { s0 with mem := s0.mem.set 0x1000 7 } 0x1000 = .value 7) ∧
    ((8#8).toNat < (9#8).toNat ∧ memRead1 { s0 with mem := s0.mem.set 0x1001 9 } 0x1001 = .value 9) ∧
    memRead1 { s0 with mem := s0.mem.set 0x1001 0 } 0x1001 = .value 0 := by decide

/-- V-S7's string: "A", then code 0x10. -/
def sBadCode : State := { s0 with mem := s0.mem.set 0x3001 0x10 }

/-- V-S4: "A" with SIZE = 3, m = 0. V-S7: m = 1, and the second character's code fails. -/
theorem witness_CharReportsItsFirstFailingCheck_string :
    (gfxBusy s0 = false ∧ LinkIdle s0 ∧ memRead1 s0 (s0.strPtr + BitVec.ofNat 32 0) = .value 0x41 ∧ (0x41 : Byte) ≠ 0 ∧
      0 + 0 * (if (3 : BitVec 2) = 0 then 6 else 8) ≤ 131) ∧
    (gfxBusy sBadCode = false ∧ LinkIdle sBadCode ∧
      (glyphAIn sBadCode (0 + 0 * 6)).result = .done ∧
      memRead1 sBadCode (sBadCode.strPtr + BitVec.ofNat 32 0) = .value 0x41 ∧
      memRead1 sBadCode (sBadCode.strPtr + BitVec.ofNat 32 1) = .value 0x10 ∧ 0 + 1 * 6 ≤ 131 ∧ (0x10 : Byte) ≠ 0 ∧
      (0x10#8).toNat < 0x20) :=
  ⟨⟨rfl, ⟨rfl, rfl, rfl, rfl⟩, by decide, by decide, by decide⟩,
    rfl, ⟨rfl, rfl, rfl, rfl⟩, by decide, by decide, by decide, by decide, by decide, by decide⟩

/-- The header of V-CH10 and "A" (m = 0); and "A" at column 127, whose glyph would end at 132. -/
theorem witness_CharReportsItsFirstFailingCheck_string_header :
    (memRead1 { s0 with mem := s0.mem.set 0x1000 7 } (fontBase s0 0) = .value 7 ∧
      memRead1 { s0 with mem := s0.mem.set 0x1000 7 } (fontBase s0 0 + 1) = .value 8 ∧
      memRead1 { s0 with mem := s0.mem.set 0x1000 7 } (fontBase s0 0 + 2) = .value 8 ∧
      memRead1 { s0 with mem := s0.mem.set 0x1000 7 } (s0.strPtr + BitVec.ofNat 32 0) = .value 0x41 ∧
      (7#8).toNat ∉ [2, 4, 6, 8]) ∧
    127 + 0 * 6 ≤ 131 ∧ memRead1 s0 (s0.strPtr + BitVec.ofNat 32 0) = .value 0x41 ∧ 0x20 ≤ (0x41#8).toNat ∧
    (0x41#8).toNat ≤ 0x7F ∧ memRead1 s0 (fontBase s0 0) = .value 6 ∧ memRead1 s0 (fontBase s0 0 + 1) = .value 8 ∧
    memRead1 s0 (fontBase s0 0 + 2) = .value 8 ∧ (6#8).toNat ∈ [2, 4, 6, 8] ∧ 8#8 ≠ 0 ∧ (8#8).toNat ≤ (8#8).toNat ∧
    131 < 127 + 0 * 6 + (6#8).toNat - 1 := by decide

theorem witness_ReservedOpcodesAreIllegal : 0xA ≤ (fieldOp 0xA000000000000000).toNat ∧
    0xA ≤ (fieldOp 0xF0000FFF00000000).toNat ∧ gfxBusy s0 = false := by decide

/-- A body that completes, CHAR's, and one that raises an error. -/
theorem witness_SequencerRefinesThePseudocode : gfxBusy s0 = false ∧ LinkIdle s0 ∧
    bodyOf (.char 124 126 0x41 0 0 0xFFF) = some (.char 124 126 0x41 0 0 0xFFF) ∧
    (refBody (.char 124 126 0x41 0 0 0xFFF) s0).result = .done ∧
    bodyOf (.char 125 0 0x41 0 0 0xFFF) = some (.char 125 0 0x41 0 0 0xFFF) ∧
    (refBody (.char 125 0 0x41 0 0 0xFFF) s0).result = .error .range :=
  ⟨rfl, ⟨rfl, rfl, rfl, rfl⟩, rfl, by decide, rfl, by decide⟩

theorem witness_AudioNoOperationDoesNothing : (0xFFFFFFFC#32).extractLsb' 0 2 = 0 := by decide

theorem witness_ArmConfiguresTheEngine : (0xFFFFFFFD#32).extractLsb' 0 2 = 1 ∧ sStream.audState = .streaming ∧
    s0.audState ≠ .streaming ∧ sArmed.audState ≠ .streaming := by decide

theorem witness_PlayChecksThenStarts : (2#32).extractLsb' 0 2 = 2 ∧ s0.audState = .idle ∧ sStream.audState = .streaming ∧
    (sArmed.audState = .armed ∧ { sArmed with audCnt := 0 }.audCnt = 0) ∧
    (sArmed.audCnt ≠ 0 ∧ { sArmed with audPtr := 0xFFFFFFFF }.audPtr.getLsbD 0 = true) ∧
    sArmed.audPtr.getLsbD 0 = false := by decide

theorem witness_StopReturnsToArmed : (3#32).extractLsb' 0 2 = 3 ∧ sStream.audState = .streaming ∧
    sArmed.audState ≠ .streaming := by decide

theorem witness_TimerTicksOncePerPeriod : sArmed.audState ≠ .streaming ∧ sStream.audState = .streaming ∧
    sStream.tmrPc = 0 ∧ sStream.tmrTc = 0 := by decide

theorem witness_LostTickLeavesNoTrace : { sStream with mr0 := true }.mr0 = true := rfl

/-- The last two bytes of the test platform's memory. -/
theorem witness_SamplesAreLittleEndian : addrKind s0.platform 0xFFFE = .plain ∧
    addrKind s0.platform (0xFFFE + 1) = .plain := by decide

/-- Not enabled; stuck; one of several samples; the last one. -/
theorem witness_ServicePlaysOneSample : sStream.mr0 = false ∧ sArmed.audState ≠ .streaming ∧
    ({ sStream with mr0 := true }.mr0 = true ∧ sStream.audState = .streaming) ∧
    memRead2 { sStream with audPtr := 0xFFFE0000 } 0xFFFE0000 = .stuck ∧
    (memRead2 { sStream with audPtr := 0x2002 } 0x2002 = .value 0x1234 ∧ sStream.audCnt ≠ 1) ∧
    { sStream with audCnt := 1 }.audCnt = 1 := by decide

/-- A sample in a device, in the window, and one whose second byte is in a device; a header in a device. -/
theorem witness_ServicePlaysOneSample_devices :
    addrKind sStream.platform 0x20000 = .device ∧ addrKind sStream.platform 0x100000FE = .window ∧
    (addrKind { plat with regions := [⟨0, 0x20001, .plain⟩, ⟨0x20001, 1, .device⟩] } 0x20000 = .plain ∧
      addrKind { plat with regions := [⟨0, 0x20001, .plain⟩, ⟨0x20001, 1, .device⟩] } (0x20000 + 1) = .device) ∧
    ∃ k, nextAct (.char 0 0 0x41 0 0 0) { s0 with font0 := 0x20000 } = .read 0x20000 k :=
  ⟨by decide, by decide, by decide, _, rfl⟩

/-- V-A11's four samples. -/
theorem witness_StreamPlaysEverySample : sArmed.audState = .armed ∧ 4 = sArmed.audCnt.toNat ∧ 0 < 4 ∧
    sArmed.audPtr.getLsbD 0 = false ∧
    ∀ k, k < 4 → memRead2 sArmed (sArmed.audPtr + BitVec.ofNat 32 (2 * k)) =
      .value (if k = 0 then 0x0000 else if k = 1 then 0x1234 else if k = 2 then 0xFFFF else 0x03FF) := by decide

theorem witness_OnlyTheServiceAdvancesAStream : ∃ s t, step s = .next t ∧ s.audState = .streaming ∧ nextTurn s ≠ .reset ∧
    t.audCnt = 3 := by
  exact ⟨{ sStream with mr0 := true, sched := [.service] }, _, rfl, rfl, by decide, rfl⟩

theorem witness_AudioStateMovesAsTabled : ∃ s t, step s = .next t ∧ s.dacEn = true ∧ nextTurn s ≠ .reset ∧
    t.audState = .streaming := by
  exact ⟨{ sArmed with sched := [.host], host := [.wr 0x40 2] }, _, rfl, rfl, by decide, rfl⟩

theorem witness_ConverterTakesTenBits :
    ({ s0 with dacData := dacWord 0x03FF }.dacData = dacWord 0x03FF ∧ s0.platform.dacCodeLo = 6) ∧
    { s0 with platform := { plat with dacCodeLo := 12 } }.platform.dacCodeLo = 12 ∧
    { s0 with platform := { plat with dacCodeLo := 22 } }.platform.dacCodeLo ≤ 22 := by decide

theorem witness_RasterRegistersFrozenWhileBusy : gfxBusy sBusy = true ∧
    0x00#8 ∈ [0x00#8, 0x04#8, 0x0C#8, 0x10#8, 0x14#8, 0x18#8, 0x1C#8, 0x20#8] ∧
    0x20#8 ∈ [0x00#8, 0x04#8, 0x0C#8, 0x10#8, 0x14#8, 0x18#8, 0x1C#8, 0x20#8] := by decide

theorem witness_StreamRegistersFrozenWhileStreaming : sStream.audState = .streaming ∧
    0x48#8 ∈ [0x48#8, 0x4C#8, 0x50#8, 0x54#8, 0x64#8] ∧ 0x64#8 ∈ [0x48#8, 0x4C#8, 0x50#8, 0x54#8, 0x64#8] := by decide

theorem witness_ConfigurationWritesAreStored : gfxBusy s0 = false ∧ s0.audState ≠ .streaming ∧
    sArmed.audState ≠ .streaming := by decide

/-- The ends of both ranges of R21's reserved offsets. -/
theorem witness_ReservedOffsetsAreInert : (0x28#8).toNat % 4 = 0 ∧ (0x28 ≤ (0x28#8).toNat ∧ (0x28#8).toNat ≤ 0x3C) ∧
    (0x3C#8).toNat % 4 = 0 ∧ (0x28 ≤ (0x3C#8).toNat ∧ (0x3C#8).toNat ≤ 0x3C) ∧ (0x68#8).toNat % 4 = 0 ∧
    0x68 ≤ (0x68#8).toNat ∧ (0xFC#8).toNat % 4 = 0 ∧ 0x68 ≤ (0xFC#8).toNat := by decide

theorem witness_HostReadsHaveNoSideEffect : (0x00#8).toNat % 4 = 0 ∧ (0xFC#8).toNat % 4 = 0 := by decide

theorem witness_NonWordAccessIsRefused : (0x41#8).toNat % 4 ≠ 0 ∧ inWindow s0.platform 0x10000000 = true ∧
    inWindow s0.platform 0x100000FF = true ∧ (0x100000FF#32).toNat % 4 ≠ 0 ∧ inWindow s0.platform 0x10000001 = true ∧
    (0x10000001#32).toNat % 4 ≠ 0 := by decide

/-- Idle: GFX_STATUS & 1 = 0; running: it is not. -/
theorem witness_WaitRepeatsUntilItMatches : (0x08#8).toNat % 4 = 0 ∧ readWindow 0x08 s0 &&& 1 = 0 ∧
    readWindow 0x08 sBusy &&& 1 ≠ 0 := by decide

theorem witness_FirstErrorIsKept : s0.gfxErr = none ∧ { s0 with gfxErr := some .range }.gfxErr ≠ none ∧
    s0.audErr = none ∧ { s0 with audErr := some .align }.audErr ≠ none := by decide

theorem witness_StoredBytesReadBack : s0.mem.wf = true ∧ addrKind s0.platform 0x1000 = .plain ∧
    addrKind s0.platform (0x1000 + 1) = .plain ∧
    ∃ c : Word, c ≠ 0x1000 ∧ c ≠ 0x1000 + 1 := ⟨by decide, by decide, by decide, 0, by decide, by decide⟩

/-- A word at the end of the test platform's memory; MEM8 and MEM16 of one item; an unbacked address and a device. -/
theorem witness_StoredBytesReadBack_wide : (addrKind s0.platform 0xFFFC = .plain ∧
      addrKind s0.platform (0xFFFC + 1) = .plain ∧ addrKind s0.platform (0xFFFC + 2) = .plain ∧
      addrKind s0.platform (0xFFFC + 3) = .plain) ∧
    (∃ t, hostOp (.mem8 0xFFFC [1]) s0 = .next t) ∧ (∃ t, hostOp (.mem16 0xFFFC [1]) s0 = .next t) ∧
    addrKind s0.platform 0x10000 = .unbacked ∧ addrKind s0.platform 0x20000 = .device :=
  ⟨by decide, ⟨_, rfl⟩, ⟨_, rfl⟩, by decide, by decide⟩

theorem witness_InstructionsTouchTheirOwnUnit :
    (∃ t, Turn.service ≠ .host ∧ turnStep .service { sStream with mr0 := true } = .next t) ∧
    (∃ t, hostWrite 0x04 0x90000000 s0 = .next t) ∧
    (∃ t, exec .arm s0 = .next t ∧ Instr.arm ∈ [Instr.audNop, .arm, .play, .stop]) ∧
    ∃ t, exec .clear s0 = .next t ∧ Instr.clear ∉ [Instr.audNop, .arm, .play, .stop] :=
  ⟨⟨_, by decide, rfl⟩, ⟨_, rfl⟩, ⟨_, rfl, by decide⟩, ⟨_, rfl, by decide⟩⟩

theorem witness_EngineStepsCommute : ∃ t u v,
    rasterStep { sStream with mr0 := true, seq := .running [] .clear } = .next t ∧
    turnStep .service { sStream with mr0 := true, seq := .running [] .clear } = .next u ∧
    turnStep .timer { sStream with mr0 := true, seq := .running [] .clear } = .next v := ⟨_, _, _, rfl, rfl, rfl⟩

/-- A tick pending on the last sample; the new stream's pointer and count. -/
theorem witness_EngineStepsCommute_service_and_host :
    (sStream.audState = .streaming ∧ { sStream with mr0 := true, audCnt := 1 }.mr0 = true) ∧
    (∃ u, serviceStep { sStream with mr0 := true, audCnt := 1 } = .next u ∧ u.mr0 = false) ∧
    (∃ v, memRead2 { sStream with mr0 := true, audCnt := 1 } sStream.audPtr = .value v) ∧
    (0xFFFFFFFE#32).getLsbD 0 = false ∧ (1 : Word) ≠ 0 := ⟨by decide, ⟨_, rfl, rfl⟩, ⟨_, rfl⟩, by decide, by decide⟩

theorem witness_HistoriesOnlyGrow : ∃ t, step { sBusy with sched := [.raster] } = .next t ∧
    nextTurn { sBusy with sched := [.raster] } ≠ .reset ∧ t.frames = [0x075] := ⟨_, rfl, by decide, by decide⟩

theorem witness_RecordedErrorsStay :
    (∃ t, exec .reservedA { s0 with gfxErr := some .range, audErr := some .align } = .next t) ∧
    ∃ t, step { sBusy with gfxErr := some .range, sched := [.raster] } = .next t ∧
      nextTurn { sBusy with gfxErr := some .range, sched := [.raster] } ≠ .host ∧
      nextTurn { sBusy with gfxErr := some .range, sched := [.raster] } ≠ .reset := ⟨⟨_, rfl⟩, _, rfl, by decide, by decide⟩

/-- V-E10's command, under a host write of GFX_FONT0. -/
def sStuck : State :=
  { s0 with
    font0 := 0x00F00000
    seq := .running [] (.char 0 0 0x41 0 0 0)
    host := [.wr 0x10 0x1000]
    sched := [.host] }

theorem witness_StuckCommandStaysUntilReset : ∃ t k, sStuck.seq = .running [] (.char 0 0 0x41 0 0 0) ∧
    nextAct (.char 0 0 0x41 0 0 0) sStuck = .read 0x00F00000 k ∧ addrKind sStuck.platform 0x00F00000 = .unbacked ∧
    step sStuck = .next t ∧ nextTurn sStuck ≠ .reset ∧ t.gfxErr = some .busy :=
  ⟨_, _, rfl, rfl, by decide, rfl, by decide, rfl⟩

theorem witness_FrameGoesOutTagFirst : 0 < 9 ∧ 8 < 9 := by decide

/-- The four directions: V-L1, V-L2, V-L3, and V-L9 the other way; and a step of each driving axis. -/
theorem witness_LinePointsAreBresenham :
    ((|(1 : Int) - 0| ≤ |(4 : Int) - 0| ∧ (0 : Int) ≤ 4) ∧ |(4 : Int) - 0| < |(5 : Int) - 0| ∧ (0 : Int) ≤ 5) ∧
    (|(0 : Int) - 1| ≤ |(0 : Int) - 4| ∧ (0 : Int) < 4) ∧ (|(2 : Int) - 0| < |(0 : Int) - 5| ∧ (0 : Int) < 5) ∧
    (linePoints 0 0 4 1)[2]? = some (2, 0) ∧ (linePoints 0 0 4 1)[2 + 1]? = some (3, 1) ∧
    (linePoints 0 0 1 4)[3]? = some (1, 3) ∧ (linePoints 0 0 1 4)[3 + 1]? = some (1, 4) ∧
    (3, 1) ∈ linePoints 0 0 4 1 := by decide

theorem witness_RectPointsAreTheBoundary : (2, 1) ∈ rectPoints 0 0 2 2 ∧ (1, 1) ∉ rectPoints 0 0 2 2 := by decide

theorem witness_CircleIsEightWaySymmetric : (21, 22) ∈ circlePoints 20 20 2 ∧ (circleVarsAt 20 20 2 1).v = 2 ∧
    (circleVarsAt 20 20 2 2).v = 1 := by decide

/-- Every clause's hypotheses at the panel's edge; CHAR's at the corner of V-CH8. -/
theorem witness_FrameCountsMatchTheTable : 131 ≤ 131 ∧ (65 ≤ 65 ∧ 65 + 65 ≤ 131) ∧
    memRead1 s0 (fontBase s0 0) = .value 6 ∧ memRead1 s0 (fontBase s0 0 + 1) = .value 8 ∧
    (refBody (.char 124 126 0x41 0 0 0xFFF) s0).result = .done ∧
    ((circleVarsAt 20 20 5 3).u < (circleVarsAt 20 20 5 3).v ∧ (circleVarsAt 20 20 5 4).v ≤ (circleVarsAt 20 20 5 4).u) := by
  decide

/-- A controller in mode Write over the window of V-RF1, a pixel half received before it was programmed. -/
def writing : Controller where
  mode := .write
  rs := 0
  re := 2
  cs := 1
  ce := 3
  r := 0
  c := 1
  partialPixel := 0xAB0
  phase := 0
  pixels := []
  received := 7

theorem witness_PackedPairsUnpack : writing.mode = .write ∧ writing.phase = 0 := by decide

theorem witness_PixelPaintsOnePixel : opcDistinct Config.opcReset = true ∧ 131 ≤ 131 ∧ 0 ≤ 131 := by decide

theorem witness_FilledRectanglePaintsItsBox : gfxBusy s0 = false ∧ LinkIdle s0 ∧ opcDistinct s0.gfxOpc = true ∧
    2 ≤ 131 ∧ 3 ≤ 131 ∧ 0 ≤ 131 ∧ 1 ≤ 131 :=
  ⟨rfl, ⟨rfl, rfl, rfl, rfl⟩, by decide, by decide, by decide, by decide, by decide⟩

end Sys2Proof.Tests
end

section
/-! The machine invariant (00_scope.md R14, 10_state.md R49, 43_audio.md R200, 60_exceptions.md R245): one lemma for each
update a step can make, then one for each agent's step, put together from the `_cases` lemmas of Laws/Ops. -/

namespace Sys2Proof.Proofs

open Sys2Proof.Machine Sys2Proof.Safety

/-! ### Updates of the raster unit -/

theorem invariant_recordGfx {s : State} (hs : MachineInvariant s) (e : GfxError) : MachineInvariant (recordGfx e s) := by
  rw [recordGfx_eq]
  exact hs

/-- An Idle sequencer claims nothing of the latched descriptor, so the command registers are free to change (R49). -/
theorem invariant_commandRegisters {s : State} (hs : MachineInvariant s) (hb : gfxBusy s = false) (lo hi : Word)
    (d : Descriptor) : MachineInvariant { s with cmdLo := lo, cmdHi := hi, latched := d } := by
  obtain ⟨hmem, hlink, -, haud⟩ := hs
  exact ⟨hmem, hlink, fun hbusy => absurd (hb.symm.trans hbusy) Bool.false_ne_true, haud⟩

theorem invariant_launched {s : State} (hs : MachineInvariant s) (c : Ctl) : MachineInvariant (launched c s) := by
  obtain ⟨hmem, hlink, -, haud⟩ := hs
  exact ⟨hmem, hlink, fun _ => rfl, haud⟩

theorem invariant_seqIdle {s : State} (hs : MachineInvariant s) : MachineInvariant { s with seq := .idle } := by
  obtain ⟨hmem, hlink, -, haud⟩ := hs
  exact ⟨hmem, hlink, fun hbusy => absurd hbusy Bool.false_ne_true, haud⟩

theorem invariant_raiseGfx {s : State} (hs : MachineInvariant s) (e : GfxError) : MachineInvariant (raiseGfx e s) := by
  rw [raiseGfx_eq]
  exact invariant_seqIdle hs

/-- A command that runs on keeps the descriptor it was launched with (R31, R49). -/
theorem invariant_seqRunning {s : State} (hs : MachineInvariant s) (hseq : s.seq ≠ .idle) (out : List Frame) (c : Ctl) :
    MachineInvariant { s with seq := .running out c } := by
  obtain ⟨hmem, hlink, hlatched, haud⟩ := hs
  exact ⟨hmem, hlink, fun _ => hlatched ((gfxBusy_eq_true_iff s).2 hseq), haud⟩

/-- The framing is over when the step is (R131, R136). -/
theorem invariant_frameOut {s : State} (hs : MachineInvariant s) (f : Frame) : MachineInvariant (frameOut f s) := by
  obtain ⟨hmem, -, hrest⟩ := hs
  rw [frameOut_eq]
  exact ⟨hmem, ⟨rfl, rfl, rfl, rfl⟩, hrest⟩

/-! ### Updates of the audio unit -/

theorem invariant_recordAud {s : State} (hs : MachineInvariant s) (e : AudError) : MachineInvariant (recordAud e s) := by
  rw [recordAud_eq]
  exact hs

/-- ARM, STOP and Complete() leave the engine Armed with a clear timer, whatever the stream registers hold
(R206, R208, R211). -/
theorem invariant_armed {s : State} (hs : MachineInvariant s) (ptr cnt : Word) {en : Bool} (hen : en = true) :
    MachineInvariant { s with
      audState := .armed, dacEn := en, audPtr := ptr, audCnt := cnt, tmrTc := 0, tmrPc := 0, mr0 := false } := by
  obtain ⟨hmem, hlink, hlatched, -⟩ := hs
  exact ⟨hmem, hlink, hlatched, fun _ => ⟨rfl, rfl, rfl⟩, fun h => AudState.noConfusion h, fun h => AudState.noConfusion h,
    iff_of_true hen AudState.noConfusion⟩

/-- While the engine is not Streaming the stream and timer registers are the host's (R43). -/
theorem invariant_streamRegisters {s : State} (hs : MachineInvariant s) (ha : s.audState ≠ .streaming)
    (ptr cnt pr mr : Word) : MachineInvariant { s with audPtr := ptr, audCnt := cnt, tmrPr := pr, tmrMr := mr } := by
  obtain ⟨hmem, hlink, hlatched, hstopped, -, -, hdac⟩ := hs
  exact ⟨hmem, hlink, hlatched, hstopped, fun h => absurd h ha, fun h => absurd h ha, hdac⟩

theorem dacEn_of_ne_idle {s : State} (hs : MachineInvariant s) (ha : s.audState ≠ .idle) : s.dacEn = true := by
  obtain ⟨-, -, -, -, -, -, hdac⟩ := hs
  exact hdac.2 ha

theorem countersBounded_of_streaming {s : State} (hs : MachineInvariant s) (ha : s.audState = .streaming) :
    s.tmrTc ≤ s.tmrMr ∧ s.tmrPc ≤ s.tmrPr := by
  obtain ⟨-, -, -, -, hcount, -⟩ := hs
  exact hcount ha

/-- PLAY's checks are what a new stream needs; its counters start at 0 (R207). -/
theorem invariant_streamStarted {s : State} (hs : MachineInvariant s) (ha : s.audState = .armed) (hcnt : s.audCnt ≠ 0)
    (hptr : s.audPtr.getLsbD 0 = false) :
    MachineInvariant { clearTimer s with done := false, audState := .streaming } := by
  have hen := dacEn_of_ne_idle hs (by simp [ha])
  obtain ⟨hmem, hlink, hlatched, -⟩ := hs
  exact ⟨hmem, hlink, hlatched, fun h => absurd rfl h, fun _ => ⟨Nat.zero_le _, Nat.zero_le _⟩,
    fun _ => ⟨hcnt, hptr⟩, iff_of_true hen AudState.noConfusion⟩

/-- A Streaming engine's counters move within their bounds (R245). -/
theorem invariant_counters {s : State} (hs : MachineInvariant s) (ha : s.audState = .streaming) {tc pc : Word}
    (htc : tc ≤ s.tmrMr) (hpc : pc ≤ s.tmrPr) (mr : Bool) :
    MachineInvariant { s with tmrPc := pc, tmrTc := tc, mr0 := mr } := by
  obtain ⟨hmem, hlink, hlatched, -, -, hrest⟩ := hs
  exact ⟨hmem, hlink, hlatched, fun h => absurd ha h, fun _ => ⟨htc, hpc⟩, hrest⟩

/-- A counter below its limit is still within it after one more cycle. -/
theorem succ_le_of_le_of_ne {a b : Word} (hle : a ≤ b) (hne : a ≠ b) : a + 1 ≤ b := by bv_omega

/-- A 2-byte sample keeps the pointer even (R80, R210). -/
theorem getLsbD_zero_add_two (a : Word) : (a + 2).getLsbD 0 = a.getLsbD 0 := by
  rw [BitVec.getLsbD_add (by decide)]
  simp

theorem invariant_servedMore {s : State} (hs : MachineInvariant s) (ha : s.audState = .streaming)
    (hcnt : s.audCnt - 1 ≠ 0) (sample : Half) : MachineInvariant (servedMore sample s) := by
  obtain ⟨hmem, hlink, hlatched, -, hcount, hstream, hdac⟩ := hs
  obtain ⟨-, hptr⟩ := hstream ha
  exact ⟨hmem, hlink, hlatched, fun h => absurd ha h, hcount, fun _ => ⟨hcnt, (getLsbD_zero_add_two _).trans hptr⟩, hdac⟩

/-! ### Each agent's step -/

/-- No instruction breaks the invariant (R108, R110). -/
theorem exec_keeps_invariant {i : Instr} {s t : State} (hs : MachineInvariant s) (h : exec i s = .next t) :
    MachineInvariant t := by
  rcases exec_cases h with rfl | rfl | ⟨hb, rfl | ⟨c, rfl⟩ | rfl⟩ | ⟨e, rfl⟩ | ⟨-, rfl⟩ | ⟨ha, hcnt, hptr, rfl⟩ | ⟨ha, rfl⟩
  · exact hs
  · exact invariant_recordGfx hs .busy
  · exact invariant_commandRegisters hs hb s.cmdLo s.cmdHi (s.cmdHi ++ s.cmdLo)
  · exact invariant_launched hs c
  · exact invariant_raiseGfx (invariant_commandRegisters hs hb s.cmdLo s.cmdHi (s.cmdHi ++ s.cmdLo)) .illegal
  · exact invariant_recordAud hs e
  · exact invariant_armed hs s.audPtr s.audCnt rfl
  · exact invariant_streamStarted hs ha hcnt hptr
  · have hen : s.dacEn = true := dacEn_of_ne_idle hs (by simp [ha])
    exact invariant_armed hs s.audPtr s.audCnt hen

/-- A host write of a register keeps the invariant: what it could break is frozen while the unit is busy (R31, R43). -/
theorem writeReg_keeps_invariant {r : Reg} {v : Word} {s t : State} (hs : MachineInvariant s)
    (h : writeReg r v s = .next t) : MachineInvariant t := by
  rcases writeReg_cases h with rfl | rfl | rfl | rfl | rfl | ⟨hb, hgfx⟩ | ⟨ha, haud⟩ | hctrl
  · exact hs
  · exact invariant_recordGfx hs .busy
  · exact invariant_recordAud hs .busy
  · unfold writeGfxStatus
    split <;> exact hs
  · exact hs
  · rcases hgfx with rfl | rfl | rfl | rfl | rfl | rfl | rfl | hexec
    · exact invariant_commandRegisters hs hb v s.cmdHi s.latched
    · exact hs
    · exact hs
    · exact hs
    · exact hs
    · exact hs
    · exact hs
    · exact exec_keeps_invariant (invariant_commandRegisters hs hb s.cmdLo v s.latched) hexec
  · rcases haud with rfl | rfl | rfl | rfl | rfl
    · exact invariant_streamRegisters hs ha v s.audCnt s.tmrPr s.tmrMr
    · exact invariant_streamRegisters hs ha s.audPtr v s.tmrPr s.tmrMr
    · exact invariant_streamRegisters hs ha s.audPtr s.audCnt v s.tmrMr
    · exact invariant_streamRegisters hs ha s.audPtr s.audCnt s.tmrPr v
    · exact hs
  · exact exec_keeps_invariant hs hctrl

theorem hostStep_keeps_invariant {s t : State} (hs : MachineInvariant s) (h : hostStep s = .next t) :
    MachineInvariant t := by
  obtain ⟨rest, ⟨r, v, hwrite⟩ | ⟨reads, rfl⟩ | ⟨ht, hwf⟩⟩ := hostStep_cases h
  · have hrest : MachineInvariant { s with host := rest } := hs
    exact writeReg_keeps_invariant hrest hwrite
  · exact hs
  · obtain ⟨hmem, hothers⟩ := hs
    rw [ht]
    exact ⟨hwf hmem, hothers⟩

theorem rasterStep_keeps_invariant {s t : State} (hs : MachineInvariant s) (h : rasterStep s = .next t) :
    MachineInvariant t := by
  rcases rasterStep_cases h with
    rfl | ⟨hseq, ⟨f, fs, c, rfl⟩ | ⟨c, rfl⟩ | ⟨a, b, c, -, rfl⟩ | rfl | ⟨e, rfl⟩⟩
  · exact hs
  · exact invariant_frameOut (invariant_seqRunning hs hseq fs c) f
  · exact invariant_seqRunning hs hseq [] c
  · exact invariant_seqRunning hs hseq [] c
  · exact invariant_seqIdle hs
  · exact invariant_raiseGfx hs e

theorem timerCycle_keeps_invariant {s : State} (hs : MachineInvariant s) : MachineInvariant (timerCycle s) := by
  rcases timerCycle_cases s with ⟨-, ht⟩ | ⟨ha, hcycle⟩
  · rw [ht]
    exact hs
  · obtain ⟨htc, hpc⟩ := countersBounded_of_streaming hs ha
    rcases hcycle with ⟨-, -, ht⟩ | ⟨-, hne, ht⟩ | ⟨hne, ht⟩ <;> rw [ht]
    · exact invariant_counters hs ha (Nat.zero_le _) (Nat.zero_le _) true
    · exact invariant_counters hs ha (succ_le_of_le_of_ne htc hne) (Nat.zero_le _) s.mr0
    · exact invariant_counters hs ha htc (succ_le_of_le_of_ne hpc hne) s.mr0

theorem serviceStep_keeps_invariant {s t : State} (hs : MachineInvariant s) (h : serviceStep s = .next t) :
    MachineInvariant t := by
  rcases serviceStep_cases h with rfl | ⟨-, ha, sample, -, ⟨hcnt, rfl⟩ | ⟨-, rfl⟩⟩
  · exact hs
  · exact invariant_servedMore hs ha hcnt sample
  · exact invariant_armed hs 0 (s.audCnt - 1) (dacEn_of_ne_idle hs (by simp [ha]))

/-- The reset input gives every register its reset value and keeps memory as it is (R260, R262). -/
theorem resetBlock_keeps_invariant {s : State} (hs : MachineInvariant s) : MachineInvariant (resetBlock s) := by
  obtain ⟨hmem, -⟩ := hs
  exact ⟨hmem, ⟨rfl, rfl, rfl, rfl⟩, fun h => absurd h Bool.false_ne_true, fun _ => ⟨rfl, rfl, rfl⟩,
    fun h => AudState.noConfusion h, fun h => AudState.noConfusion h, iff_of_false Bool.false_ne_true fun h => h rfl⟩

theorem turnStep_keeps_invariant {turn : Turn} {s t : State} (hs : MachineInvariant s) (h : turnStep turn s = .next t) :
    MachineInvariant t := by
  cases turn with
  | host => exact hostStep_keeps_invariant hs h
  | raster => exact rasterStep_keeps_invariant hs h
  | timer =>
    cases h
    exact timerCycle_keeps_invariant hs
  | service => exact serviceStep_keeps_invariant hs h
  | reset =>
    cases h
    exact resetBlock_keeps_invariant hs

/-- Settles O3: the schedule and the step counter are in no part of the invariant, and each agent's step keeps it. -/
theorem everyStepKeepsTheInvariant : Obligations.EveryStepKeepsTheInvariant := by
  intro s t hs h
  have hturn : MachineInvariant (tookTurn s) := hs
  exact turnStep_keeps_invariant hturn h

end Sys2Proof.Proofs
end

section
/-! Refinement of the bodies' pseudocode by the sequencer (00_scope.md R14, 10_state.md R49, 20_memory.md R81). `Realizes`
relates the action a body is about to take with the pseudocode still to run, one rule for each kind of action; running the
sequencer is done once, by induction on it, and each command's body is then a matter of the two texts alone. -/

namespace Sys2Proof.Proofs

open Sys2Proof.Machine Sys2Proof.Safety

/-! ### The simulation relation -/

/-- From action `a`, the body the sequencer runs on the registers and memory of s is the pseudocode run `r`. -/
inductive Realizes (s : State) : Act → BodyRun → Prop where
  | finish : Realizes s .finish refDone
  | fail (e : GfxError) : Realizes s (.fail e) (refFail e)
  | emit {f : Frame} {fs : List Frame} {c : Ctl} {r : BodyRun} :
      Realizes s (nextAct c s) r → Realizes s (.emit (f :: fs) c) (refEmit (f :: fs) r)
  | read {a : Word} {k : Byte → Ctl} {r : Byte → BodyRun} :
      (∀ b, Realizes s (nextAct (k b) s) (r b)) → Realizes s (.read a k) (refRead s a r)

/-- t holds what a body reads as s does: the raster registers, memory and the platform's map (R104, R182). -/
def SameInputs (s t : State) : Prop :=
  t.gfxOpc = s.gfxOpc ∧ t.strPtr = s.strPtr ∧ t.font0 = s.font0 ∧ t.font1 = s.font1 ∧ t.font2 = s.font2 ∧
    t.mem = s.mem ∧ t.platform = s.platform

theorem SameInputs.nextAct_eq {s t : State} (h : SameInputs s t) (c : Ctl) : nextAct c t = nextAct c s := by
  obtain ⟨hopc, hstr, h0, h1, h2, -, -⟩ := h
  exact nextAct_congr hopc hstr h0 h1 h2 c

theorem SameInputs.memRead1_eq {s t : State} (h : SameInputs s t) (a : Word) : memRead1 t a = memRead1 s a := by
  obtain ⟨-, -, -, -, -, hmem, hplat⟩ := h
  exact memRead1_congr hmem hplat a

/-- The pseudocode completes or raises an error; it meets no read that is stuck or refused. -/
def Ends (r : BodyRun) : Prop := r.result = .done ∨ ∃ e, r.result = .error e

/-- t once its command has run to its end with these frames, reads and result. -/
def bodyDone (r : BodyRun) (t : State) : State :=
  { t with
    seq := .idle
    frames := t.frames ++ r.frames
    gfxReads := t.gfxReads ++ r.reads
    gfxErr := errorAfter r.result t.gfxErr }

theorem bodyDone_launched (r : BodyRun) (c : Ctl) (s : State) : bodyDone r (launched c s) = bodyEffect r s := rfl

theorem errorAfter_error (e : GfxError) (old : Option GfxError) : errorAfter (.error e) old = some (old.getD e) := by
  cases old <;> rfl

/-! ### The pseudocode's combinators -/

theorem refEmit_append (fs gs : List Frame) (r : BodyRun) : refEmit (fs ++ gs) r = refEmit fs (refEmit gs r) := by
  simp [refEmit]

theorem refRead_of_value {s : State} {a : Word} {b : Byte} (h : memRead1 s a = .value b) (k : Byte → BodyRun) :
    refRead s a k = { k b with reads := a :: (k b).reads } := by
  simp [refRead, h]

/-- Pseudocode that ends has had every read answered. -/
theorem memRead1_value_of_ends {s : State} {a : Word} {k : Byte → BodyRun} (h : Ends (refRead s a k)) :
    ∃ b, memRead1 s a = .value b := by
  cases hm : memRead1 s a with
  | value b => exact ⟨b, rfl⟩
  | stuck => simp [Ends, refRead, hm] at h
  | device d => simp [Ends, refRead, hm] at h

/-! ### Running the sequencer -/

theorem rasterStep_eq_takeAct {s t : State} {c : Ctl} (hin : SameInputs s t) (hseq : t.seq = .running [] c) :
    rasterStep t = takeAct (nextAct c s) t := by
  rw [rasterStep_of_body hseq, hin.nextAct_eq]

/-- A group decided on by the next action goes out one frame a step, its first frame in the deciding step (R136). -/
theorem rasterRun_emit {s t : State} {c c' : Ctl} {f : Frame} {fs : List Frame} (hin : SameInputs s t)
    (hidle : LinkIdle t) (hseq : t.seq = .running [] c) (hact : nextAct c s = .emit (f :: fs) c') (n : Nat) :
    rasterRun ((f :: fs).length + n) t =
      rasterRun n { t with seq := .running [] c', frames := t.frames ++ (f :: fs) } := by
  have hstep : rasterStep t = .next { t with seq := .running fs c', frames := t.frames ++ [f] } := by
    have hidle' : LinkIdle { t with seq := .running fs c' } := hidle
    rw [rasterStep_eq_takeAct hin hseq, hact, takeAct, emitGroup_cons, frameOut_of_linkIdle hidle']
  have hgroup := rasterRun_group fs c' n { t with seq := .running fs c', frames := t.frames ++ [f] } hidle rfl
  rw [List.length_cons, Nat.add_right_comm, rasterRun_succ hstep, hgroup, List.append_assoc, List.singleton_append]

/-- The sequencer carries out the pseudocode its next action realizes: a step for each frame and each read, and one to
complete or to raise the error (R14; log 8). -/
theorem Realizes.rasterRun_eq {s : State} {a : Act} {r : BodyRun} (h : Realizes s a r) (hends : Ends r) {c : Ctl}
    {t : State} (hin : SameInputs s t) (hidle : LinkIdle t) (hseq : t.seq = .running [] c) (hact : nextAct c s = a) :
    rasterRun (r.frames.length + r.reads.length + 1) t = .next (bodyDone r t) := by
  induction h generalizing c t with
  | finish =>
    have hstep : rasterStep t = .next { t with seq := .idle } := by rw [rasterStep_eq_takeAct hin hseq, hact, takeAct]
    rw [rasterRun_succ hstep]
    simp [rasterRun, bodyDone, refDone, errorAfter]
  | fail e =>
    have hstep : rasterStep t = .next (raiseGfx e t) := by rw [rasterStep_eq_takeAct hin hseq, hact, takeAct]
    rw [rasterRun_succ hstep, raiseGfx_eq]
    simp [rasterRun, bodyDone, refFail, errorAfter_error]
  | @emit f fs c' r _ ih =>
    have hcount : (refEmit (f :: fs) r).frames.length + (refEmit (f :: fs) r).reads.length + 1 =
        (f :: fs).length + (r.frames.length + r.reads.length + 1) := by
      simp only [refEmit, List.length_append]
      omega
    have hrest := ih hends (t := { t with seq := .running [] c', frames := t.frames ++ (f :: fs) }) hin hidle rfl rfl
    rw [hcount, rasterRun_emit hin hidle hseq hact, hrest]
    simp [bodyDone, refEmit]
  | @read a k r _ ih =>
    obtain ⟨b, hb⟩ := memRead1_value_of_ends hends
    have hstep : rasterStep t = .next { t with seq := .running [] (k b), gfxReads := t.gfxReads ++ [a] } := by
      rw [rasterStep_eq_takeAct hin hseq, hact, takeAct, hin.memRead1_eq, hb]
    rw [refRead_of_value hb] at hends ⊢
    have hcount : (r b).frames.length + (a :: (r b).reads).length + 1 =
        (r b).frames.length + (r b).reads.length + 1 + 1 := rfl
    have hrest := ih b hends (t := { t with seq := .running [] (k b), gfxReads := t.gfxReads ++ [a] }) hin hidle rfl rfl
    rw [hcount, rasterRun_succ hstep, hrest]
    simp [bodyDone]

/-! ### Drawing commands -/

/-- The points of a list of segments, in order (R158). -/
def segmentsPoints (gs : List Segment) : List Point := gs.flatMap fun g => linePoints g.x0 g.y0 g.x1 g.y1

/-- The pseudocode that draws these points and completes (R150). -/
def refPixels (s : State) (ps : List Point) (color : Colour) : BodyRun :=
  refEmit (pixelsFrames s.gfxOpc ps color) refDone

theorem refPixels_cons (s : State) (p : Point) (ps : List Point) (color : Colour) :
    refPixels s (p :: ps) color = refEmit (pixelFrames s.gfxOpc p color) (refPixels s ps color) := by
  rw [refPixels, pixelsFrames, List.flatMap_cons, refEmit_append]
  rfl

/-- One Pixel, then the rest: its ten frames are a group (R150). -/
theorem Realizes.pixel {s : State} {p : Point} {ps : List Point} {color : Colour} {c : Ctl}
    (h : Realizes s (nextAct c s) (refPixels s ps color)) :
    Realizes s (.emit (pixelFrames s.gfxOpc p color) c) (refPixels s (p :: ps) color) := by
  rw [refPixels_cons]
  exact .emit h

theorem lineNext_left (v : LineVars) : (lineNext v).left = v.left - 1 := by
  simp only [lineNext]
  split <;> rfl

theorem lineInit_left_pos (g : Segment) : 0 < (lineInit g).left := by
  simp only [lineInit]
  split <;> exact Nat.succ_pos _

theorem lineRun_of_left_pos {v : LineVars} (hv : 0 < v.left) :
    lineRun v.left v = linePoint v :: lineRun (lineNext v).left (lineNext v) := by
  obtain ⟨n, hn⟩ := Nat.exists_eq_add_of_lt hv
  rw [lineNext_left, hn]
  simp [lineRun]

theorem lineEmit_realizes {s : State} {color : Colour} {v : LineVars} {rest : List Segment} {ps : List Point}
    (hv : 0 < v.left)
    (h : Realizes s (lineLoopBody color (lineNext v) rest s)
      (refPixels s (lineRun (lineNext v).left (lineNext v) ++ ps) color)) :
    Realizes s (lineEmit color v rest s) (refPixels s (lineRun v.left v ++ ps) color) := by
  rw [lineRun_of_left_pos hv]
  exact .pixel h

/-- The line loop draws the points left to it, and then whatever the exhausted loop draws (R152). -/
theorem lineLoop_realizes_of_exhausted {s : State} {color : Colour} {rest : List Segment} {ps : List Point}
    (hdone : ∀ v : LineVars, v.left = 0 → Realizes s (lineLoopBody color v rest s) (refPixels s ps color))
    (v : LineVars) : Realizes s (lineLoopBody color v rest s) (refPixels s (lineRun v.left v ++ ps) color) := by
  induction hn : v.left generalizing v with
  | zero => exact hdone v hn
  | succ n ih =>
    have hpos : 0 < v.left := by omega
    have hloop : lineLoopBody color v rest s = lineEmit color v rest s := if_neg hpos.ne'
    have hnext : (lineNext v).left = n := by rw [lineNext_left, hn, Nat.add_sub_cancel]
    rw [hloop, ← hn]
    exact lineEmit_realizes hpos (hnext ▸ ih (lineNext v) hnext)

/-- The line loop draws the points left to it, and then the segments after it, in order (R153, R158). -/
theorem lineLoop_realizes (s : State) (color : Colour) (rest : List Segment) (v : LineVars) :
    Realizes s (lineLoopBody color v rest s) (refPixels s (lineRun v.left v ++ segmentsPoints rest) color) := by
  induction rest generalizing v with
  | nil =>
    refine lineLoop_realizes_of_exhausted (fun w hw => ?_) v
    have hloop : lineLoopBody color w [] s = .finish := if_pos hw
    rw [hloop]
    exact .finish
  | cons g gs ih =>
    refine lineLoop_realizes_of_exhausted (fun w hw => ?_) v
    have hloop : lineLoopBody color w (g :: gs) s = lineEmit color (lineInit g) gs s := if_pos hw
    rw [hloop]
    exact lineEmit_realizes (lineInit_left_pos g) (ih (lineNext (lineInit g)))

/-- A segment and those after it (R153, R158). -/
theorem segments_realize (s : State) (color : Colour) (g : Segment) (gs : List Segment) :
    Realizes s (lineEmit color (lineInit g) gs s) (refPixels s (segmentsPoints (g :: gs)) color) :=
  lineEmit_realizes (lineInit_left_pos g) (lineLoop_realizes s color gs (lineNext (lineInit g)))

theorem line_realizes (s : State) (x0 y0 x1 y1 : Nat) (color : Colour) :
    Realizes s (lineBody x0 y0 x1 y1 color s) (refBody (.line x0 y0 x1 y1 color) s) := by
  simp only [lineBody, refBody]
  split
  · have h := segments_realize s color { x0 := x0, y0 := y0, x1 := x1, y1 := y1 } []
    simpa [segmentsPoints, refPixels] using h
  · exact .fail .range

theorem rect_realizes (s : State) (x0 y0 x1 y1 : Nat) (color : Colour) :
    Realizes s (rectBody x0 y0 x1 y1 color s) (refBody (.rect x0 y0 x1 y1 color) s) := by
  simp only [rectBody, refBody]
  split
  · have h := segments_realize s color { x0 := x0, y0 := y0, x1 := x1, y1 := y0 } (rectRest x0 y0 x1 y1)
    simpa [segmentsPoints, rectRest, rectPoints, refPixels, List.append_assoc] using h
  · exact .fail .range

theorem pixel_realizes (s : State) (x y : Nat) (color : Colour) :
    Realizes s (pixelBody x y color s) (refBody (.pixel x y color) s) := by
  simp only [pixelBody, refBody]
  split
  · exact .emit .finish
  · exact .fail .range

/-! ### CIRCLE -/

theorem circleNext_u (c : CircleVars) : (circleNext c).u = c.u + 1 := by
  simp only [circleNext]
  split <;> rfl

theorem circleNext_v_le (c : CircleVars) : (circleNext c).v ≤ c.v := by
  simp only [circleNext]
  split
  · exact Int.sub_le_self c.v Int.one_nonneg
  · exact le_rfl

/-- The circle loop draws the points of its iteration, and then whatever the loop without them draws (R160). -/
theorem circleLoop_realizes_of_drained {s : State} {color : Colour} {c : CircleVars} {ps : List Point}
    (hdone : Realizes s (circleLoopBody color c [] s) (refPixels s ps color)) (points : List Point) :
    Realizes s (circleLoopBody color c points s) (refPixels s (points ++ ps) color) := by
  induction points with
  | nil => exact hdone
  | cons p points ih => exact .pixel ih

/-- n rounds are enough where v exceeds u by at most n: u rises every round and v never does (R160). -/
theorem circleLoop_realizes (s : State) (color : Colour) (n : Nat) (c : CircleVars) (hn : c.v ≤ c.u + n) :
    Realizes s (circleLoopBody color c [] s) (refPixels s (circleRun n c) color) := by
  induction n generalizing c with
  | zero =>
    have hloop : circleLoopBody color c [] s = .finish := if_neg (by omega)
    rw [hloop]
    exact .finish
  | succ n ih =>
    simp only [circleRun]
    by_cases huv : c.u < c.v
    · have hloop : circleLoopBody color c [] s =
          circleLoopBody color (circleNext c) (circleOctants (circleNext c)) s := if_pos huv
      have hnext : (circleNext c).v ≤ (circleNext c).u + n := by
        have hv := circleNext_v_le c
        rw [circleNext_u]
        omega
      rw [hloop, if_pos huv]
      exact circleLoop_realizes_of_drained (ih (circleNext c) hnext) _
    · have hloop : circleLoopBody color c [] s = .finish := if_neg huv
      rw [hloop, if_neg huv]
      exact .finish

theorem circle_realizes (s : State) (x0 y0 r : Nat) (color : Colour) :
    Realizes s (circleBody x0 y0 r color s) (refBody (.circle x0 y0 r color) s) := by
  simp only [circleBody, refBody]
  split
  · have hrounds : (circleInit x0 y0 r).v ≤ (circleInit x0 y0 r).u + r := by simp [circleInit]
    exact circleLoop_realizes_of_drained (circleLoop_realizes s color r (circleInit x0 y0 r) hrounds)
      (circleExtremes x0 y0 r)
  · exact .fail .range

/-! ### RECTF and CLEAR -/

theorem fillLoop_realizes (s : State) (color : Colour) (n : Nat) :
    Realizes s (fillLoopBody color n) (refEmit (pairsFrames color n) refDone) := by
  induction n with
  | zero => exact .finish
  | succ n ih =>
    rw [pairsFrames, refEmit_append]
    exact .emit ih

theorem rectf_realizes (s : State) (x0 y0 x1 y1 : Nat) (color : Colour) :
    Realizes s (rectfBody x0 y0 x1 y1 color s) (refBody (.rectf x0 y0 x1 y1 color) s) := by
  simp only [rectfBody, refBody]
  split
  · rw [refEmit_append]
    exact .emit (fillLoop_realizes s color (fillPairs (boundingBox x0 y0 x1 y1)))
  · exact .fail .range

theorem clear_realizes (s : State) : Realizes s (clearBody s) (refBody .clear s) := by
  simp only [clearBody, refBody]
  rw [refEmit_append]
  exact .emit (fillLoop_realizes s Config.white clearPairs)

/-! ### CHAR and STRING -/

/-- A row of a valid glyph has at least one pair (R184, R185). -/
theorem rowFrames_ne_nil {h : GlyphHeader} (hvalid : headerValid h = true) (g : GlyphVars) (bits : Byte) :
    rowFrames g h bits ≠ [] := by
  obtain ⟨hcols, -⟩ := (headerValid_iff h).1 hvalid
  obtain ⟨n, hn⟩ : ∃ n, h.cols / 2 = n + 1 := ⟨h.cols / 2 - 1, by omega⟩
  simp [rowFrames, hn, rowPairs, pairFrames]

/-- The last n rows of a valid glyph, each a read and then its pairs (R183, R184, R187). -/
theorem glyphRow_realizes {s : State} {g : GlyphVars} {h : GlyphHeader} {after : BodyRun}
    (hvalid : headerValid h = true) (hafter : Realizes s (glyphEndBody g s) after) (n : Nat) (hn : n ≤ h.rows) :
    Realizes s (glyphRowBody g h (h.rows - n) s) (refRows s g h after n) := by
  induction n with
  | zero =>
    have hend : glyphRowBody g h (h.rows - 0) s = glyphEndBody g s := if_neg (lt_irrefl _)
    rw [hend]
    exact hafter
  | succ n ih =>
    have hrow : glyphRowBody g h (h.rows - (n + 1)) s =
        .read (rowAddr (fontBase s g.size) h.stride g.code (h.rows - (n + 1)))
          fun b => .glyphBits g h (h.rows - (n + 1)) b := if_pos (by omega)
    have hnext : h.rows - (n + 1) + 1 = h.rows - n := by omega
    rw [hrow]
    refine .read fun b => ?_
    obtain ⟨f, fs, hfs⟩ := List.exists_cons_of_ne_nil (rowFrames_ne_nil hvalid g b)
    simp only [nextAct, glyphBitsBody, hfs, hnext]
    exact .emit (ih (by omega))

/-- DrawGlyph's checks and reads come in the pseudocode's order; a drawn glyph goes on as its caller does (R187, R233). -/
theorem glyph_realizes {s : State} {g : GlyphVars} {after : BodyRun} (hafter : Realizes s (glyphEndBody g s) after) :
    Realizes s (glyphBegin g s) (refGlyph s g after) := by
  simp only [glyphBegin, refGlyph]
  split
  · exact .fail .size
  split
  · refine .read fun cols => .read fun rows => .read fun stride => ?_
    simp only [nextAct, headerDoneBody]
    split
    · rename_i hvalid
      split
      · refine .emit ?_
        have h := glyphRow_realizes hvalid hafter _ le_rfl
        rwa [Nat.sub_self] at h
      · exact .fail .range
    · exact .fail .glyph
  · exact .fail .glyph

theorem char_realizes (s : State) (x y code : Nat) (size : BitVec 2) (fg bg : Colour) :
    Realizes s (charBody x y code size fg bg s) (refBody (.char x y code size fg bg) s) := by
  simp only [charBody, refBody]
  split
  · exact glyph_realizes .finish
  · exact .fail .range

/-- The string loop at character i and column cy: its read, and then the character (R193). -/
def readChar (s : State) (x : Int) (size : BitVec 2) (fg bg : Colour) (cy : Int) (i : Nat) : Act :=
  .read (stringAddr s i) fun ch =>
    .stringChar { x := x, y := cy, code := ch.toNat, size := size, fg := fg, bg := bg, index := some i }

theorem six_le_pitch (size : BitVec 2) : 6 ≤ pitch size := by
  by_cases h : size = 0
  · rw [h, pitch_of_small]
  · rw [pitch_of_other h]
    decide

/-- n characters are enough where n steps of at least 6 columns pass column 131: the guard stops the loop there (R193). -/
theorem readChar_realizes (s : State) (x : Int) (size : BitVec 2) (fg bg : Colour) (n : Nat) (cy : Int) (i : Nat)
    (hcol : cy ≤ Config.colMax) (hn : Config.colMax < cy + 6 * n) :
    Realizes s (readChar s x size fg bg cy i) (refString s x size fg bg n cy i) := by
  induction n generalizing cy i with
  | zero => omega
  | succ n ih =>
    refine .read fun ch => ?_
    simp only [nextAct, stringCharBody]
    by_cases hch : ch = 0
    · rw [if_pos hch, if_pos (by simp [hch])]
      exact .finish
    · have hcode : ch.toNat ≠ 0 := fun h => hch (BitVec.eq_of_toNat_eq h)
      rw [if_neg hch, if_neg hcode]
      refine glyph_realizes ?_
      simp only [glyphEndBody]
      split
      · exact .finish
      · have hpitch := six_le_pitch size
        exact ih (cy + pitch size) (i + 1) (by omega) (by omega)

theorem string_realizes (s : State) (x y : Nat) (size : BitVec 2) (fg bg : Colour) :
    Realizes s (stringBody x y size fg bg s) (refBody (.string x y size fg bg) s) := by
  simp only [stringBody, refBody]
  split
  · rename_i hpanel
    obtain ⟨-, hy⟩ := (inPanel_iff x y).1 hpanel
    exact readChar_realizes s x size fg bg maxStringChars y 0 hy (by simp only [Config.colMax, maxStringChars]; omega)
  · exact .fail .range

/-! ### Every command -/

/-- The body a command's launch starts realizes the command's pseudocode (R103, R108). -/
theorem refBody_realized {i : Instr} {c : Ctl} (hc : bodyOf i = some c) (s : State) :
    Realizes s (nextAct c s) (refBody i s) := by
  cases i <;> simp only [bodyOf, Option.some.injEq, reduceCtorEq] at hc <;> subst hc
  case lcmd byte => exact .emit .finish
  case ldat byte => exact .emit .finish
  case pixel x y color => exact pixel_realizes s x y color
  case line x0 y0 x1 y1 color => exact line_realizes s x0 y0 x1 y1 color
  case rect x0 y0 x1 y1 color => exact rect_realizes s x0 y0 x1 y1 color
  case rectf x0 y0 x1 y1 color => exact rectf_realizes s x0 y0 x1 y1 color
  case circle x0 y0 r color => exact circle_realizes s x0 y0 r color
  case char x y code size fg bg => exact char_realizes s x y code size fg bg
  case string x y size fg bg => exact string_realizes s x y size fg bg
  case clear => exact clear_realizes s

/-- The meaning of a command with a body is its launch (R108). -/
theorem exec_of_bodyOf {i : Instr} {c : Ctl} (hc : bodyOf i = some c) (s : State) : exec i s = launch c s := by
  cases i <;> simp only [bodyOf, Option.some.injEq, reduceCtorEq] at hc <;> subst hc <;> rfl

/-- Settles O23: the launch starts a body that realizes the pseudocode, and the sequencer runs what is realized. -/
theorem sequencerRefinesThePseudocode : Obligations.SequencerRefinesThePseudocode := by
  intro i c s hc hb
  refine ⟨(exec_of_bodyOf hc s).trans (launch_of_idle hb c), fun hidle hends => ?_⟩
  have hin : SameInputs s (launched c s) := ⟨rfl, rfl, rfl, rfl, rfl, rfl, rfl⟩
  rw [← bodyDone_launched (refBody i s) c s]
  exact (refBody_realized hc s).rasterRun_eq hends hin hidle rfl rfl

end Sys2Proof.Proofs
end

section
/-! Whose step a step is, and what a launching write runs (00_scope.md R14, 30_encoding.md R103, R108, R110, 10_state.md
R20). -/

namespace Sys2Proof.Proofs

open Sys2Proof.Machine Sys2Proof.Safety

/-! ### What decoding answers is well-formed (R102) -/

@[simp] theorem fits8_toNat (b : Byte) : fits8 b.toNat = true := decide_eq_true b.isLt

theorem decodeDescriptor_wellFormed (d : Descriptor) : (decodeDescriptor d).wellFormed = true := by
  unfold decodeDescriptor
  split
  -- the sixth row is OP = 0x5, where FILL selects the instruction (R105)
  case h_6 => split <;> simp [Instr.wellFormed]
  all_goals simp [Instr.wellFormed]

theorem decodeControl_wellFormed (w : Word) : (decodeControl w).wellFormed = true := by
  unfold decodeControl
  split <;> rfl

/-! ### The window's bus addresses (R20) -/

theorem inWindow_windowAddr (p : Platform) (off : BitVec 8) : inWindow p (windowAddr p off) = true := by
  have hpage : (windowAddr p off).extractLsb' 8 24 = p.basePage := BitVec.extractLsb'_append_eq_left
  simp [inWindow, hpage]

theorem extractLsb'_windowAddr (p : Platform) (off : BitVec 8) : (windowAddr p off).extractLsb' 0 8 = off :=
  BitVec.extractLsb'_append_eq_right

theorem hostOp_busWr_windowAddr (s : State) (off : BitVec 8) (v : Word) :
    hostOp (.busWr (windowAddr s.platform off) v) s = hostWrite off v s := by
  rw [hostOp, if_pos (inWindow_windowAddr s.platform off), extractLsb'_windowAddr]

theorem hostOp_busRd_windowAddr (s : State) (off : BitVec 8) :
    hostOp (.busRd (windowAddr s.platform off)) s = hostRead off s := by
  rw [hostOp, if_pos (inWindow_windowAddr s.platform off), extractLsb'_windowAddr]

/-! ### Turns (R14) -/

/-- A scheduled turn is that agent's step on the state with the turn used. -/
theorem step_of_sched {s : State} {turn : Turn} {turns : List Turn} (h : s.sched = turn :: turns) :
    step s = turnStep turn { s with sched := turns, turn := s.turn + 1 } := by
  simp [step, nextTurn, tookTurn, h]

theorem step_of_sched_nil {s : State} (h : s.sched = []) :
    step s = turnStep (Config.arbiter s.turn) { s with turn := s.turn + 1 } := by
  simp [step, nextTurn, tookTurn, h]

theorem step_of_host_op {s : State} {turns : List Turn} {op : HostOp} {rest : List HostOp}
    (hsched : s.sched = .host :: turns) (hhost : s.host = op :: rest) :
    step s = hostOp op { s with host := rest, sched := turns, turn := s.turn + 1 } := by
  simp [step_of_sched hsched, turnStep, hostStep, hhost]

theorem step_of_host_nil {s : State} {turns : List Turn} (hsched : s.sched = .host :: turns) (hhost : s.host = []) :
    step s = .next { s with sched := turns, turn := s.turn + 1 } := by
  simp [step_of_sched hsched, turnStep, hostStep, hhost]

/-- A host write at a window offset, or at its bus address, is the next step. -/
theorem step_of_window_write {s : State} {turns : List Turn} {rest : List HostOp} {off : BitVec 8} {v : Word}
    (hsched : s.sched = .host :: turns)
    (hhost : s.host = .wr off v :: rest ∨ s.host = .busWr (windowAddr s.platform off) v :: rest) :
    step s = hostWrite off v { s with host := rest, sched := turns, turn := s.turn + 1 } := by
  rcases hhost with hwr | hbus
  · exact step_of_host_op hsched hwr
  · rw [step_of_host_op hsched hbus]
    exact hostOp_busWr_windowAddr { s with host := rest, sched := turns, turn := s.turn + 1 } off v

/-! ### The launching writes (R23, R32) -/

theorem hostWrite_cmdHi_of_idle {s : State} (h : gfxBusy s = false) (v : Word) :
    hostWrite 0x04 v s = exec (decodeDescriptor (v ++ s.cmdLo)) { s with cmdHi := v } := by
  have hwrite : hostWrite 0x04 v s = writeCmdHi v s := hostWrite_regOffset .gfxCmdHi v s
  rw [hwrite, writeCmdHi, h, if_neg Bool.false_ne_true]

theorem hostWrite_audCtrl (v : Word) (s : State) : hostWrite 0x40 v s = exec (decodeControl v) s :=
  hostWrite_regOffset .audCtrl v s

/-- Settles O8: the turn chosen, the host's operation, the address and the register, one lemma each. -/
theorem stepRunsTheWrittenCommand : Obligations.StepRunsTheWrittenCommand := by
  refine ⟨?launches, ?turns, ?accesses⟩
  case launches =>
    intro s v rest turns hsched
    refine ⟨fun hhost hb => ⟨decodeDescriptor_wellFormed _, ?_⟩, fun hhost => ⟨decodeControl_wellFormed v, ?_⟩⟩
    · have hb' : gfxBusy { s with host := rest, sched := turns, turn := s.turn + 1 } = false := hb
      rw [step_of_window_write hsched hhost]
      exact hostWrite_cmdHi_of_idle hb' v
    · rw [step_of_window_write hsched hhost]
      exact hostWrite_audCtrl v _
  case turns =>
    intro s turns
    exact ⟨fun h => step_of_sched h, fun h => step_of_sched h, fun h => step_of_sched h,
      fun h => ⟨step_of_host_nil h, fun _ _ hhost => step_of_host_op h hhost⟩, step_of_sched_nil⟩
  case accesses =>
    intro s off v
    exact ⟨rfl, rfl, hostOp_busWr_windowAddr s off v, hostOp_busRd_windowAddr s off⟩

end Sys2Proof.Proofs
end


section
/-! The register window (10_state.md R20 to R45, 60_exceptions.md R230): which offsets hold a register, the fields of the
words that are put together from several, and what a host access of each register answers. -/

namespace Sys2Proof.Proofs

open Sys2Proof.Machine
open BitVec (extractLsb'_append_eq_of_le extractLsb'_append_eq_of_add_le extractLsb'_eq_self)

/-! ### Offsets (R20, R21, R44) -/

theorem wordAligned_iff (off : BitVec 8) : wordAligned off = true ↔ off.toNat % 4 = 0 := by
  rw [wordAligned, beq_iff_eq, ← BitVec.toNat_inj, BitVec.extractLsb'_toNat, Nat.shiftRight_zero]
  rfl

theorem regAt_of_reserved {off : BitVec 8} (hoff : 0x28 ≤ off.toNat ∧ off.toNat ≤ 0x3C ∨ 0x68 ≤ off.toNat) :
    regAt off = none := by
  unfold regAt
  split
  -- the last row of R21's table is the reserved offsets; every other names an offset outside both ranges
  case h_21 => rfl
  all_goals omega

theorem readWindow_of_reserved {off : BitVec 8} (hreg : regAt off = none) (s : State) : readWindow off s = 0 := by
  rw [readWindow, hreg]

theorem hostWrite_of_reserved {off : BitVec 8} (hreg : regAt off = none) (hword : off.toNat % 4 = 0) (v : Word)
    (s : State) : hostWrite off v s = .next s := by
  rw [hostWrite, if_pos ((wordAligned_iff off).2 hword), hreg]

theorem hostRead_of_aligned {off : BitVec 8} (hword : off.toNat % 4 = 0) (s : State) :
    hostRead off s = .next (noteRead (.register off (readWindow off s)) s) :=
  if_pos ((wordAligned_iff off).2 hword)

/-! ### The fields of GFX_STATUS (R24) -/

theorem gfxStatus_busy (s : State) : (gfxStatus s).getLsbD 0 = gfxBusy s := by
  rw [gfxStatus, BitVec.getLsbD_append]
  simp

theorem gfxStatus_err (s : State) : (gfxStatus s).getLsbD 1 = s.gfxErr.isSome := by
  rw [gfxStatus, BitVec.getLsbD_append, if_neg (by decide), BitVec.getLsbD_append]
  simp

theorem gfxStatus_bits_3_2 (s : State) : (gfxStatus s).extractLsb' 2 2 = 0#2 := by
  rw [gfxStatus, extractLsb'_append_eq_of_le (by decide), extractLsb'_append_eq_of_le (by decide),
    extractLsb'_append_eq_of_add_le (by decide), extractLsb'_eq_self]

theorem gfxStatus_errCode (s : State) : (gfxStatus s).extractLsb' 4 4 = gfxErrCode s := by
  rw [gfxStatus, extractLsb'_append_eq_of_le (by decide), extractLsb'_append_eq_of_le (by decide),
    extractLsb'_append_eq_of_le (by decide), extractLsb'_append_eq_of_add_le (by decide), extractLsb'_eq_self]

theorem gfxStatus_bits_31_8 (s : State) : (gfxStatus s).extractLsb' 8 24 = 0#24 := by
  rw [gfxStatus, extractLsb'_append_eq_of_le (by decide), extractLsb'_append_eq_of_le (by decide),
    extractLsb'_append_eq_of_le (by decide), extractLsb'_append_eq_of_le (by decide), extractLsb'_eq_self]

/-! ### The fields of AUD_STATUS (R33) -/

theorem audStatus_state (s : State) : (audStatus s).extractLsb' 0 2 = audStateCode s.audState := by
  rw [audStatus, extractLsb'_append_eq_of_add_le (by decide), extractLsb'_eq_self]

theorem audStatus_done (s : State) : (audStatus s).getLsbD 2 = s.done := by
  rw [audStatus, BitVec.getLsbD_append, if_neg (by decide), BitVec.getLsbD_append]
  simp

theorem audStatus_err (s : State) : (audStatus s).getLsbD 3 = s.audErr.isSome := by
  rw [audStatus, BitVec.getLsbD_append, if_neg (by decide), BitVec.getLsbD_append, if_neg (by decide),
    BitVec.getLsbD_append]
  simp

theorem audStatus_errCode (s : State) : (audStatus s).extractLsb' 4 4 = audErrCode s := by
  rw [audStatus, extractLsb'_append_eq_of_le (by decide), extractLsb'_append_eq_of_le (by decide),
    extractLsb'_append_eq_of_le (by decide), extractLsb'_append_eq_of_add_le (by decide), extractLsb'_eq_self]

theorem audStatus_dacEn (s : State) : (audStatus s).getLsbD 8 = s.dacEn := by
  rw [audStatus, BitVec.getLsbD_append, if_neg (by decide), BitVec.getLsbD_append, if_neg (by decide),
    BitVec.getLsbD_append, if_neg (by decide), BitVec.getLsbD_append, if_neg (by decide), BitVec.getLsbD_append]
  simp

theorem audStatus_bits_31_9 (s : State) : (audStatus s).extractLsb' 9 23 = 0#23 := by
  rw [audStatus, extractLsb'_append_eq_of_le (by decide), extractLsb'_append_eq_of_le (by decide),
    extractLsb'_append_eq_of_le (by decide), extractLsb'_append_eq_of_le (by decide),
    extractLsb'_append_eq_of_le (by decide), extractLsb'_eq_self]

/-! ### The fields of LINK_STATUS, TMR_IR and LINK_CTRL (R29, R30, R41) -/

theorem linkStatus_fBusy (s : State) : (linkStatus s).getLsbD 0 = s.fBusy := by
  rw [linkStatus, BitVec.getLsbD_append]
  simp

theorem linkStatus_csN (s : State) : (linkStatus s).getLsbD 1 = s.csN := by
  rw [linkStatus, BitVec.getLsbD_append, if_neg (by decide), BitVec.getLsbD_append]
  simp

theorem linkStatus_bits_31_2 (s : State) : (linkStatus s).extractLsb' 2 30 = 0#30 := by
  rw [linkStatus, extractLsb'_append_eq_of_le (by decide), extractLsb'_append_eq_of_le (by decide), extractLsb'_eq_self]

theorem tmrIr_mr0 (s : State) : (tmrIr s).getLsbD 0 = s.mr0 := by
  rw [tmrIr, BitVec.getLsbD_append]
  simp

theorem tmrIr_bits_31_1 (s : State) : (tmrIr s).extractLsb' 1 31 = 0#31 :=
  BitVec.extractLsb'_append_eq_left

theorem linkCtrl_rstN (s : State) : (linkCtrl s).getLsbD 0 = s.rstN := by
  rw [linkCtrl, BitVec.getLsbD_append]
  simp

theorem linkCtrl_bits_7_1 (s : State) : (linkCtrl s).extractLsb' 1 7 = 0#7 := by
  rw [linkCtrl, extractLsb'_append_eq_of_le (by decide), extractLsb'_append_eq_of_add_le (by decide),
    extractLsb'_eq_self]

theorem linkCtrl_clkDiv (s : State) : (linkCtrl s).extractLsb' 8 8 = s.clkDiv := by
  rw [linkCtrl, extractLsb'_append_eq_of_le (by decide), extractLsb'_append_eq_of_le (by decide),
    extractLsb'_append_eq_of_add_le (by decide), extractLsb'_eq_self]

theorem linkCtrl_bits_31_16 (s : State) : (linkCtrl s).extractLsb' 16 16 = 0#16 := by
  rw [linkCtrl, extractLsb'_append_eq_of_le (by decide), extractLsb'_append_eq_of_le (by decide),
    extractLsb'_append_eq_of_le (by decide), extractLsb'_eq_self]

/-! ### Accepted writes (R31, R43) -/

/-- With BUSY = 0 a write that BUSY = 1 would have refused is the register's update. -/
theorem hostWrite_of_idle {s t : State} (hidle : gfxBusy s = false) (r : Reg) (v : Word)
    (hr : writeReg r v s = if gfxBusy s then .next (recordGfx .busy s) else .next t) :
    hostWrite (regOffset r) v s = .next t := by
  rw [hostWrite_regOffset, hr, hidle, if_neg Bool.false_ne_true]

/-- Outside Streaming a write that Streaming would have refused is the register's update. -/
theorem hostWrite_of_stopped {s t : State} (hstopped : s.audState ≠ .streaming) (r : Reg) (v : Word)
    (hr : writeReg r v s = if s.audState = .streaming then .next (recordAud .busy s) else .next t) :
    hostWrite (regOffset r) v s = .next t := by
  rw [hostWrite_regOffset, hr, if_neg hstopped]

theorem writeGfxStatus_eq (v : Word) (s : State) :
    writeGfxStatus v s = { s with gfxErr := if v.getLsbD 1 then none else s.gfxErr } := by
  unfold writeGfxStatus
  split <;> rfl

/-! ### The statements about the window -/

/-- Settles O36: the eight offsets are those of the registers whose write is refused while BUSY = 1. -/
theorem rasterRegistersFrozenWhileBusy : Obligations.RasterRegistersFrozenWhileBusy := by
  intro s off v hbusy hoff
  obtain ⟨r, hr, rfl⟩ :
      ∃ r ∈ [Reg.gfxCmdLo, .gfxCmdHi, .gfxStrPtr, .gfxFont0, .gfxFont1, .gfxFont2, .gfxOpc, .linkCtrl],
        regOffset r = off := List.mem_map.1 hoff
  rw [hostWrite_regOffset, writeReg_of_busy hbusy hr, recordGfx_eq]

/-- Settles O37: the five offsets are those of the registers whose write is refused while Streaming. -/
theorem streamRegistersFrozenWhileStreaming : Obligations.StreamRegistersFrozenWhileStreaming := by
  intro s off v hstreaming hoff
  obtain ⟨r, hr, rfl⟩ : ∃ r ∈ [Reg.audPtr, .audCnt, .tmrPr, .tmrMr, .dacData], regOffset r = off := List.mem_map.1 hoff
  rw [hostWrite_regOffset, writeReg_of_streaming hstreaming hr, recordAud_eq]

/-- Settles O38: whole words read back as they are stored, GFX_OPC and LINK_CTRL field by field; an accepted write is its
register's update. -/
theorem configurationWritesAreStored : Obligations.ConfigurationWritesAreStored := by
  intro s v
  refine ⟨?reads, ?raster, ?stream, ?readOnly⟩
  case reads =>
    exact ⟨rfl, rfl, rfl, rfl, rfl, rfl, BitVec.extractLsb'_append_eq_right, BitVec.extractLsb'_append_eq_left,
      linkCtrl_rstN s, linkCtrl_bits_7_1 s, linkCtrl_clkDiv s, linkCtrl_bits_31_16 s,
      rfl, rfl, rfl, rfl, rfl, rfl, rfl, rfl⟩
  case raster =>
    intro hidle
    exact ⟨hostWrite_of_idle hidle .gfxCmdLo v rfl, hostWrite_of_idle hidle .gfxStrPtr v rfl,
      hostWrite_of_idle hidle .gfxFont0 v rfl, hostWrite_of_idle hidle .gfxFont1 v rfl,
      hostWrite_of_idle hidle .gfxFont2 v rfl, hostWrite_of_idle hidle .gfxOpc v rfl,
      hostWrite_of_idle hidle .linkCtrl v rfl⟩
  case stream =>
    intro hstopped
    exact ⟨hostWrite_of_stopped hstopped .audPtr v rfl, hostWrite_of_stopped hstopped .audCnt v rfl,
      hostWrite_of_stopped hstopped .tmrPr v rfl, hostWrite_of_stopped hstopped .tmrMr v rfl,
      hostWrite_of_stopped hstopped .dacData v rfl⟩
  case readOnly =>
    exact ⟨hostWrite_regOffset .linkStatus v s, hostWrite_regOffset .tmrTc v s, hostWrite_regOffset .tmrPc v s,
      hostWrite_regOffset .tmrIr v s⟩

/-- Settles O39: the two status writes, each as one record update. -/
theorem statusWritesClear : Obligations.StatusWritesClear := by
  intro s v
  have hgfx : hostWrite 0x08 v s = .next (writeGfxStatus v s) := hostWrite_regOffset .gfxStatus v s
  exact ⟨hgfx.trans (congrArg _ (writeGfxStatus_eq v s)), hostWrite_regOffset .audStatus v s⟩

/-- Settles O40: the fields of the four words, and the codes of R230 read off one by one. -/
theorem statusWordsShowTheirFields : Obligations.StatusWordsShowTheirFields := by
  intro s
  have hgfx : readWindow 0x08 s = gfxStatus s := readWindow_regOffset .gfxStatus s
  have hlink : readWindow 0x24 s = linkStatus s := readWindow_regOffset .linkStatus s
  have haud : readWindow 0x44 s = audStatus s := readWindow_regOffset .audStatus s
  have htmr : readWindow 0x60 s = tmrIr s := readWindow_regOffset .tmrIr s
  rw [hgfx, hlink, haud, htmr]
  refine ⟨?busy, gfxStatus_err s, gfxStatus_bits_3_2 s, ?gfxCode, gfxStatus_bits_31_8 s, linkStatus_fBusy s,
    linkStatus_csN s, linkStatus_bits_31_2 s, ?state, audStatus_done s, audStatus_err s, ?audCode, audStatus_dacEn s,
    audStatus_bits_31_9 s, tmrIr_mr0 s, tmrIr_bits_31_1 s⟩
  case busy => rw [gfxStatus_busy, gfxBusy_eq_true_iff]
  case gfxCode =>
    rw [gfxStatus_errCode, gfxErrCode]
    cases s.gfxErr with
    | none => rfl
    | some e => cases e <;> rfl
  case state =>
    rw [audStatus_state]
    cases s.audState <;> rfl
  case audCode =>
    rw [audStatus_errCode, audErrCode]
    cases s.audErr with
    | none => rfl
    | some e => cases e <;> rfl

/-- Settles O41: no register stands at a reserved offset. -/
theorem reservedOffsetsAreInert : Obligations.ReservedOffsetsAreInert := by
  intro s off v hword hoff
  have hreg : regAt off = none := regAt_of_reserved hoff
  exact ⟨readWindow_of_reserved hreg s, hostWrite_of_reserved hreg hword v s⟩

/-- Settles O42: an aligned read is a trace entry and nothing else. -/
theorem hostReadsHaveNoSideEffect : Obligations.HostReadsHaveNoSideEffect :=
  fun s _ hword => hostRead_of_aligned hword s

end Sys2Proof.Proofs
end

section
/-! Who moves a stream (10_state.md R43, 43_audio.md R210 to R212): the registers a stream runs from, kept by every
instruction in every state, and by every step from a Streaming state but a tick service and reset. -/

namespace Sys2Proof.Proofs

open Sys2Proof.Machine

/-- What a stream runs from and what it has put out: AUD_PTR, AUD_CNT, TMR_PR, TMR_MR, DAC_DATA and its history
(R43, R96). -/
structure StreamRegisters where
  ptr : Word
  cnt : Word
  pr : Word
  mr : Word
  dac : Word
  hist : List Word

def streamRegisters (s : State) : StreamRegisters where
  ptr := s.audPtr
  cnt := s.audCnt
  pr := s.tmrPr
  mr := s.tmrMr
  dac := s.dacData
  hist := s.dacHist

theorem streamRegisters_eq_iff (s t : State) : streamRegisters t = streamRegisters s ↔
    t.audPtr = s.audPtr ∧ t.audCnt = s.audCnt ∧ t.tmrPr = s.tmrPr ∧ t.tmrMr = s.tmrMr ∧ t.dacData = s.dacData ∧
      t.dacHist = s.dacHist := by
  simp [streamRegisters]

/-! ### Error records and frames are no part of a stream (R136, R231) -/

theorem streamRegisters_recordGfx (e : GfxError) (s : State) : streamRegisters (recordGfx e s) = streamRegisters s := by
  rw [recordGfx_eq]
  rfl

theorem streamRegisters_recordAud (e : AudError) (s : State) : streamRegisters (recordAud e s) = streamRegisters s := by
  rw [recordAud_eq]
  rfl

theorem streamRegisters_frameOut (f : Frame) (s : State) : streamRegisters (frameOut f s) = streamRegisters s := by
  rw [frameOut_eq]
  rfl

theorem streamRegisters_raiseGfx (e : GfxError) (s : State) : streamRegisters (raiseGfx e s) = streamRegisters s := by
  rw [raiseGfx_eq]
  rfl

/-! ### Each agent's step -/

/-- No instruction moves a stream: PLAY starts one from the registers as they are, STOP leaves them (R207, R208). -/
theorem exec_keeps_streamRegisters {i : Instr} {s t : State} (h : exec i s = .next t) :
    streamRegisters t = streamRegisters s := by
  rcases exec_cases h with rfl | rfl | ⟨-, rfl | ⟨c, rfl⟩ | rfl⟩ | ⟨e, rfl⟩ | ⟨-, rfl⟩ | ⟨-, -, -, rfl⟩ | ⟨-, rfl⟩
  · rfl
  · exact streamRegisters_recordGfx .busy s
  · rfl
  · rfl
  · exact streamRegisters_raiseGfx .illegal _
  · exact streamRegisters_recordAud e s
  · rfl
  · rfl
  · rfl

/-- While Streaming the host's writes of the stream registers are refused (R43). -/
theorem writeReg_keeps_streamRegisters {r : Reg} {v : Word} {s t : State} (ha : s.audState = .streaming)
    (h : writeReg r v s = .next t) : streamRegisters t = streamRegisters s := by
  rcases writeReg_cases h with rfl | rfl | rfl | rfl | rfl | ⟨-, hgfx⟩ | ⟨hstopped, -⟩ | hctrl
  · rfl
  · exact streamRegisters_recordGfx .busy s
  · exact streamRegisters_recordAud .busy s
  · rw [writeGfxStatus_eq]
    rfl
  · rfl
  · rcases hgfx with rfl | rfl | rfl | rfl | rfl | rfl | rfl | hexec
    case inr.inr.inr.inr.inr.inr.inr =>
      have hkept := exec_keeps_streamRegisters hexec
      exact hkept
    all_goals rfl
  · exact absurd ha hstopped
  · exact exec_keeps_streamRegisters hctrl

theorem hostStep_keeps_streamRegisters {s t : State} (ha : s.audState = .streaming) (h : hostStep s = .next t) :
    streamRegisters t = streamRegisters s := by
  obtain ⟨rest, ⟨r, v, hwrite⟩ | ⟨reads, rfl⟩ | ⟨ht, -⟩⟩ := hostStep_cases h
  · have hrest : ({ s with host := rest } : State).audState = .streaming := ha
    have hkept := writeReg_keeps_streamRegisters hrest hwrite
    exact hkept
  · rfl
  · rw [ht]
    rfl

theorem rasterStep_keeps_streamRegisters {s t : State} (h : rasterStep s = .next t) :
    streamRegisters t = streamRegisters s := by
  rcases rasterStep_cases h with rfl | ⟨-, ⟨f, fs, c, rfl⟩ | ⟨c, rfl⟩ | ⟨a, b, c, -, rfl⟩ | rfl | ⟨e, rfl⟩⟩
  · rfl
  · exact streamRegisters_frameOut f _
  · rfl
  · rfl
  · rfl
  · exact streamRegisters_raiseGfx e s

theorem timerCycle_keeps_streamRegisters (s : State) : streamRegisters (timerCycle s) = streamRegisters s := by
  rcases timerCycle_cases s with ⟨-, ht⟩ | ⟨-, ⟨-, -, ht⟩ | ⟨-, -, ht⟩ | ⟨-, ht⟩⟩ <;> rw [ht] <;> rfl

/-- A step from a Streaming state that is neither the service's nor reset's keeps the stream's registers (R43, R212). -/
theorem turnStep_keeps_streamRegisters {turn : Turn} {s t : State} (ha : s.audState = .streaming)
    (hreset : turn ≠ .reset) (hservice : turn ≠ .service) (h : turnStep turn s = .next t) :
    streamRegisters t = streamRegisters s := by
  cases turn with
  | host => exact hostStep_keeps_streamRegisters ha h
  | raster => exact rasterStep_keeps_streamRegisters h
  | timer =>
    cases h
    exact timerCycle_keeps_streamRegisters s
  | service => exact absurd rfl hservice
  | reset => exact absurd rfl hreset

/-! ### The statement about a stream -/

/-- Settles O33: the tick service plays its sample or does nothing, and no other agent's step touches the stream. -/
theorem onlyTheServiceAdvancesAStream : Obligations.OnlyTheServiceAdvancesAStream := by
  intro s t h ha hreset
  by_cases hturn : nextTurn s = .service
  · rw [step, hturn] at h
    rcases serviceStep_cases h with rfl | ⟨hmr0, -, v, hread, ⟨hcnt, rfl⟩ | ⟨hcnt, rfl⟩⟩
    · exact ⟨rfl, rfl, .inl ⟨rfl, rfl, rfl, rfl⟩⟩
    · exact ⟨rfl, rfl, .inr ⟨hturn, hmr0, v, hread, rfl, rfl, rfl, rfl, .inl ⟨hcnt, ha, rfl⟩⟩⟩
    · exact ⟨rfl, rfl, .inr ⟨hturn, hmr0, v, hread, rfl, rfl, rfl, rfl, .inr ⟨hcnt, rfl, rfl, rfl⟩⟩⟩
  · have hkept : streamRegisters t = streamRegisters s :=
      turnStep_keeps_streamRegisters (s := tookTurn s) ha hreset hturn h
    obtain ⟨hptr, hcnt, hpr, hmr, hdac, hhist⟩ := (streamRegisters_eq_iff s t).1 hkept
    exact ⟨hpr, hmr, .inl ⟨hptr, hcnt, hdac, hhist⟩⟩

end Sys2Proof.Proofs
end

section
/-! What a step leaves alone (20_memory.md R71, R81, R88, 60_exceptions.md R247): each instruction's own unit, the memory and
the platform under every step but the host's memory writes, and the two histories, which grow by one entry at most. -/

namespace Sys2Proof.Proofs

open Sys2Proof.Machine

/-! ### An instruction and its unit (R247) -/

/-- From `s` to `t` nothing but what a launch writes has changed: the latched descriptor, the sequencer and the raster error
record (R108, R234). -/
def OnlyLaunchFields (s t : State) : Prop :=
  t = { s with latched := t.latched, seq := t.seq, gfxErr := t.gfxErr }

/-- From `s` to `t` nothing but what an audio operation writes has changed (R206 to R208, R234). -/
def OnlyAudioFields (s t : State) : Prop :=
  t = { s with
    audState := t.audState, done := t.done, audErr := t.audErr, dacEn := t.dacEn, tmrTc := t.tmrTc, tmrPc := t.tmrPc,
    mr0 := t.mr0 }

theorem onlyLaunchFields_recordGfx (e : GfxError) (s : State) : OnlyLaunchFields s (recordGfx e s) := by
  rw [recordGfx_eq]
  rfl

theorem onlyAudioFields_raiseAud (e : AudError) (s : State) : OnlyAudioFields s (raiseAud e s) := by
  rw [raiseAud, recordAud_eq]
  rfl

/-- A launch while BUSY = 1 is an error record, so a launch keeps to its fields when its accepted case does (R31). -/
theorem onlyLaunchFields_of_accepted {s t accepted : State} (hacc : OnlyLaunchFields s accepted)
    (h : (if gfxBusy s then .next (recordGfx .busy s) else .next accepted : Host.Outcome State Fault Refusal) = .next t) :
    OnlyLaunchFields s t := by
  split at h <;> cases h
  · exact onlyLaunchFields_recordGfx .busy s
  · exact hacc

theorem launch_onlyLaunchFields {c : Ctl} {s t : State} (h : launch c s = .next t) : OnlyLaunchFields s t :=
  onlyLaunchFields_of_accepted (accepted := launched c s) rfl h

theorem launchNothing_onlyLaunchFields {s t : State} (h : launchNothing s = .next t) : OnlyLaunchFields s t :=
  onlyLaunchFields_of_accepted (accepted := { s with latched := s.cmdHi ++ s.cmdLo }) rfl h

theorem launchIllegal_onlyLaunchFields {s t : State} (h : launchIllegal s = .next t) : OnlyLaunchFields s t := by
  refine onlyLaunchFields_of_accepted (accepted := raiseGfx .illegal { s with latched := s.cmdHi ++ s.cmdLo }) ?_ h
  rw [raiseGfx_eq]
  rfl

/-- Every raster instruction is one of the three launches (R106, R108, R141). -/
theorem exec_eq_launch {i : Instr} (hi : i ∉ [Instr.audNop, .arm, .play, .stop]) (s : State) :
    exec i s = launchNothing s ∨ exec i s = launchIllegal s ∨ ∃ c, exec i s = launch c s := by
  cases i
  case nop => exact .inl rfl
  case reservedA | reservedB | reservedC | reservedD | reservedE | reservedF => exact .inr (.inl rfl)
  case audNop | arm | play | stop => simp at hi
  all_goals exact .inr (.inr ⟨_, rfl⟩)

theorem exec_onlyLaunchFields {i : Instr} {s t : State} (hi : i ∉ [Instr.audNop, .arm, .play, .stop])
    (h : exec i s = .next t) : OnlyLaunchFields s t := by
  rcases exec_eq_launch hi s with hnop | hillegal | ⟨c, hc⟩
  · exact launchNothing_onlyLaunchFields (hnop.symm.trans h)
  · exact launchIllegal_onlyLaunchFields (hillegal.symm.trans h)
  · exact launch_onlyLaunchFields (hc.symm.trans h)

theorem execArm_onlyAudioFields {s t : State} (h : execArm s = .next t) : OnlyAudioFields s t := by
  unfold execArm at h
  split at h <;> cases h
  · exact onlyAudioFields_raiseAud .busy s
  · rfl

/-- PLAY's four checks record an error each; past them the stream starts (R207). -/
theorem execPlay_onlyAudioFields {s t : State} (h : execPlay s = .next t) : OnlyAudioFields s t := by
  unfold execPlay at h
  split_ifs at h <;> cases h
  · exact onlyAudioFields_raiseAud .notArmed s
  · exact onlyAudioFields_raiseAud .busy s
  · exact onlyAudioFields_raiseAud .zeroCount s
  · exact onlyAudioFields_raiseAud .align s
  · rfl

theorem execStop_onlyAudioFields {s t : State} (h : execStop s = .next t) : OnlyAudioFields s t := by
  unfold execStop at h
  split at h <;> cases h <;> rfl

theorem exec_onlyAudioFields {i : Instr} {s t : State} (hi : i ∈ [Instr.audNop, .arm, .play, .stop])
    (h : exec i s = .next t) : OnlyAudioFields s t := by
  simp only [List.mem_cons, List.not_mem_nil, or_false] at hi
  rcases hi with rfl | rfl | rfl | rfl
  · cases h
    rfl
  · exact execArm_onlyAudioFields h
  · exact execPlay_onlyAudioFields h
  · exact execStop_onlyAudioFields h

/-! ### Memory, the platform and the frames already out -/

/-- What surrounds the block's registers: system memory, the platform, and the frames that have gone out (R70, R7, R96). -/
structure Surroundings where
  mem : Memory
  platform : Platform
  frames : List Frame

def surroundings (s : State) : Surroundings where
  mem := s.mem
  platform := s.platform
  frames := s.frames

theorem surroundings_eq_iff (s t : State) : surroundings t = surroundings s ↔
    t.mem = s.mem ∧ t.platform = s.platform ∧ t.frames = s.frames := by
  simp [surroundings]

theorem surroundings_recordGfx (e : GfxError) (s : State) : surroundings (recordGfx e s) = surroundings s := by
  rw [recordGfx_eq]
  rfl

theorem surroundings_recordAud (e : AudError) (s : State) : surroundings (recordAud e s) = surroundings s := by
  rw [recordAud_eq]
  rfl

theorem exec_keeps_surroundings {i : Instr} {s t : State} (h : exec i s = .next t) : surroundings t = surroundings s := by
  by_cases hi : i ∈ [Instr.audNop, .arm, .play, .stop]
  · rw [exec_onlyAudioFields hi h]
    rfl
  · rw [exec_onlyLaunchFields hi h]
    rfl

/-- A write of a register, a launching one among them, reaches registers only (R71). -/
theorem writeReg_keeps_surroundings {r : Reg} {v : Word} {s t : State} (h : writeReg r v s = .next t) :
    surroundings t = surroundings s := by
  rcases writeReg_cases h with rfl | rfl | rfl | rfl | rfl | ⟨-, hgfx⟩ | ⟨-, haud⟩ | hctrl
  · rfl
  · exact surroundings_recordGfx .busy s
  · exact surroundings_recordAud .busy s
  · rw [writeGfxStatus_eq]
    rfl
  · rfl
  · rcases hgfx with rfl | rfl | rfl | rfl | rfl | rfl | rfl | hexec
    case inr.inr.inr.inr.inr.inr.inr => exact (exec_keeps_surroundings hexec :)
    all_goals rfl
  · rcases haud with rfl | rfl | rfl | rfl | rfl <;> rfl
  · exact exec_keeps_surroundings hctrl

/-- A host write that is admitted is the write of a register, or is ignored at a reserved offset (R44). -/
theorem hostWrite_cases {off : BitVec 8} {v : Word} {s t : State} (h : hostWrite off v s = .next t) :
    t = s ∨ ∃ r, writeReg r v s = .next t := by
  unfold hostWrite at h
  split at h
  case isTrue =>
    split at h
    · exact .inr ⟨_, h⟩
    · cases h
      exact .inl rfl
  case isFalse => cases h

theorem hostWrite_keeps_surroundings {off : BitVec 8} {v : Word} {s t : State} (h : hostWrite off v s = .next t) :
    surroundings t = surroundings s := by
  rcases hostWrite_cases h with rfl | ⟨r, hr⟩
  · rfl
  · exact writeReg_keeps_surroundings hr

/-- The sequencer reads memory and stores nothing; what it puts out is one frame at the end of the history (R71, R136). -/
theorem rasterStep_surroundings {s t : State} (h : rasterStep s = .next t) :
    surroundings t = surroundings s ∨ ∃ f, surroundings t = { surroundings s with frames := s.frames ++ [f] } := by
  rcases rasterStep_cases h with rfl | ⟨-, ⟨f, fs, c, rfl⟩ | ⟨c, rfl⟩ | ⟨a, b, c, -, rfl⟩ | rfl | ⟨e, rfl⟩⟩
  · exact .inl rfl
  · exact .inr ⟨f, rfl⟩
  · exact .inl rfl
  · exact .inl rfl
  · exact .inl rfl
  · rw [raiseGfx_eq]
    exact .inl rfl

theorem timerCycle_keeps_surroundings (s : State) : surroundings (timerCycle s) = surroundings s := by
  rcases timerCycle_cases s with ⟨-, ht⟩ | ⟨-, ⟨-, -, ht⟩ | ⟨-, -, ht⟩ | ⟨-, ht⟩⟩ <;> rw [ht] <;> rfl

theorem serviceStep_keeps_surroundings {s t : State} (h : serviceStep s = .next t) : surroundings t = surroundings s := by
  rcases serviceStep_cases h with rfl | ⟨-, -, sample, -, ⟨-, rfl⟩ | ⟨-, rfl⟩⟩ <;> rfl

/-- No agent but the host stores to memory, reset among them (R71, R262). -/
theorem turnStep_keeps_memory {turn : Turn} {s t : State} (hhost : turn ≠ .host) (h : turnStep turn s = .next t) :
    t.mem = s.mem ∧ t.platform = s.platform := by
  cases turn with
  | host => exact absurd rfl hhost
  | raster =>
    rcases rasterStep_surroundings h with hkept | ⟨f, hframe⟩
    · exact ⟨congrArg Surroundings.mem hkept, congrArg Surroundings.platform hkept⟩
    · exact ⟨congrArg Surroundings.mem hframe, congrArg Surroundings.platform hframe⟩
  | timer =>
    cases h
    have hkept := timerCycle_keeps_surroundings s
    exact ⟨congrArg Surroundings.mem hkept, congrArg Surroundings.platform hkept⟩
  | service =>
    have hkept := serviceStep_keeps_surroundings h
    exact ⟨congrArg Surroundings.mem hkept, congrArg Surroundings.platform hkept⟩
  | reset =>
    cases h
    exact ⟨rfl, rfl⟩

/-- Settles O47: the engines' steps and the register writes keep the surroundings, and an instruction is a launch or an
audio operation, each with its own fields. -/
theorem instructionsTouchTheirOwnUnit : Obligations.InstructionsTouchTheirOwnUnit := by
  refine ⟨fun _ _ _ => turnStep_keeps_memory, fun off v s t h => ?_, fun i s t h => ?_⟩
  · obtain ⟨hmem, hplatform, -⟩ := (surroundings_eq_iff s t).1 (hostWrite_keeps_surroundings h)
    exact ⟨hmem, hplatform⟩
  · exact ⟨fun hi => exec_onlyAudioFields hi h, fun hi => exec_onlyLaunchFields hi h⟩

/-! ### The histories (R88, R96, R136) -/

theorem hostStep_keeps_frames {s t : State} (h : hostStep s = .next t) : t.frames = s.frames := by
  obtain ⟨rest, ⟨r, v, hwrite⟩ | ⟨reads, rfl⟩ | ⟨ht, -⟩⟩ := hostStep_cases h
  · exact congrArg Surroundings.frames (writeReg_keeps_surroundings hwrite)
  · rfl
  · rw [ht]

/-- The frame history moves in the sequencer's step alone, by one frame. -/
theorem turnStep_frames {turn : Turn} {s t : State} (hreset : turn ≠ .reset) (h : turnStep turn s = .next t) :
    t.frames = s.frames ∨ turn = .raster ∧ ∃ f, t.frames = s.frames ++ [f] := by
  cases turn with
  | host => exact .inl (hostStep_keeps_frames h)
  | raster =>
    rcases rasterStep_surroundings h with hkept | ⟨f, hframe⟩
    · exact .inl (congrArg Surroundings.frames hkept)
    · exact .inr ⟨rfl, f, congrArg Surroundings.frames hframe⟩
  | timer =>
    cases h
    exact .inl (congrArg Surroundings.frames (timerCycle_keeps_surroundings s))
  | service => exact .inl (congrArg Surroundings.frames (serviceStep_keeps_surroundings h))
  | reset => exact absurd rfl hreset

/-- Of all register writes only an accepted one of DAC_DATA adds to its history (R42, R96). -/
theorem writeReg_dacHist {r : Reg} {v : Word} {s t : State} (h : writeReg r v s = .next t) :
    t.dacHist = s.dacHist ∨ t.dacHist = s.dacHist ++ [v] := by
  rcases writeReg_cases h with rfl | rfl | rfl | rfl | rfl | ⟨-, hgfx⟩ | ⟨-, haud⟩ | hctrl
  · exact .inl rfl
  · exact .inl (recordGfx_dacHist .busy s)
  · exact .inl (recordAud_dacHist .busy s)
  · rw [writeGfxStatus_eq]
    exact .inl rfl
  · exact .inl rfl
  · rcases hgfx with rfl | rfl | rfl | rfl | rfl | rfl | rfl | hexec
    case inr.inr.inr.inr.inr.inr.inr => exact .inl (congrArg StreamRegisters.hist (exec_keeps_streamRegisters hexec))
    all_goals exact .inl rfl
  · rcases haud with rfl | rfl | rfl | rfl | rfl
    case inr.inr.inr.inr => exact .inr rfl
    all_goals exact .inl rfl
  · exact .inl (congrArg StreamRegisters.hist (exec_keeps_streamRegisters hctrl))

theorem hostStep_dacHist {s t : State} (h : hostStep s = .next t) :
    t.dacHist = s.dacHist ∨ ∃ v, t.dacHist = s.dacHist ++ [v] := by
  obtain ⟨rest, ⟨r, v, hwrite⟩ | ⟨reads, rfl⟩ | ⟨ht, -⟩⟩ := hostStep_cases h
  · exact (writeReg_dacHist hwrite).imp_right fun hv => ⟨v, hv⟩
  · exact .inl rfl
  · rw [ht]
    exact .inl rfl

theorem serviceStep_dacHist {s t : State} (h : serviceStep s = .next t) :
    t.dacHist = s.dacHist ∨ ∃ v, t.dacHist = s.dacHist ++ [v] := by
  rcases serviceStep_cases h with rfl | ⟨-, -, sample, -, ⟨-, rfl⟩ | ⟨-, rfl⟩⟩
  · exact .inl rfl
  · exact .inr ⟨dacWord sample, rfl⟩
  · exact .inr ⟨dacWord sample, rfl⟩

/-- The DAC_DATA history moves in the host's and the service's steps alone, by one value. -/
theorem turnStep_dacHist {turn : Turn} {s t : State} (hreset : turn ≠ .reset) (h : turnStep turn s = .next t) :
    t.dacHist = s.dacHist ∨ (turn = .host ∨ turn = .service) ∧ ∃ v, t.dacHist = s.dacHist ++ [v] := by
  cases turn with
  | host => exact (hostStep_dacHist h).imp_right fun hv => ⟨.inl rfl, hv⟩
  | raster => exact .inl (congrArg StreamRegisters.hist (rasterStep_keeps_streamRegisters h))
  | timer =>
    cases h
    exact .inl (congrArg StreamRegisters.hist (timerCycle_keeps_streamRegisters s))
  | service => exact (serviceStep_dacHist h).imp_right fun hv => ⟨.inr rfl, hv⟩
  | reset => exact absurd rfl hreset

/-- Settles O49: using up a turn is in neither history, and each agent's step adds its own. -/
theorem historiesOnlyGrow : Obligations.HistoriesOnlyGrow :=
  fun s _ h hreset => ⟨turnStep_frames (s := tookTurn s) hreset h, turnStep_dacHist (s := tookTurn s) hreset h⟩

end Sys2Proof.Proofs
end

section
/-! System memory under the host's accesses (20_memory.md R74, R76, R78, R82 to R84, 30_encoding.md R113): where an access
stops, what a run of stored bytes reads back as, and what a load leaves in the host's trace. -/

namespace Sys2Proof.Proofs

open Sys2Proof.Machine

/-! ### Accesses that are not admitted (R78) -/

theorem hostWrite_of_unaligned {off : BitVec 8} (h : off.toNat % 4 ≠ 0) (v : Word) (s : State) :
    hostWrite off v s = .refused .nonWordAccess :=
  if_neg (mt (wordAligned_iff off).1 h)

theorem hostRead_of_unaligned {off : BitVec 8} (h : off.toNat % 4 ≠ 0) (s : State) :
    hostRead off s = .refused .nonWordAccess :=
  if_neg (mt (wordAligned_iff off).1 h)

theorem hostWait_of_unaligned {off : BitVec 8} (h : off.toNat % 4 ≠ 0) (mask value : Word) (s : State) :
    hostWait off mask value s = .refused .nonWordAccess :=
  if_neg (mt (wordAligned_iff off).1 h)

theorem addrKind_eq_window_iff (p : Platform) (a : Word) : addrKind p a = .window ↔ inWindow p a = true := by
  unfold addrKind
  split
  case isTrue hin => simp [hin]
  case isFalse hout => split <;> simp [hout]

theorem hostOp_busWr_inside {s : State} {a : Word} (h : inWindow s.platform a = true) (v : Word) :
    hostOp (.busWr a v) s = hostWrite (a.extractLsb' 0 8) v s := if_pos h

theorem hostOp_busRd_inside {s : State} {a : Word} (h : inWindow s.platform a = true) :
    hostOp (.busRd a) s = hostRead (a.extractLsb' 0 8) s := if_pos h

theorem hostOp_busWr_outside {s : State} {a : Word} (h : addrKind s.platform a ≠ .window) (v : Word) :
    hostOp (.busWr a v) s = hostStore a (bytesOfWord v) s :=
  if_neg (mt (addrKind_eq_window_iff s.platform a).2 h)

theorem hostOp_busRd_outside {s : State} {a : Word} (h : addrKind s.platform a ≠ .window) :
    hostOp (.busRd a) s = hostLoad a 4 s :=
  if_neg (mt (addrKind_eq_window_iff s.platform a).2 h)

/-- The window is 256-byte aligned, so a bus address and its offset are multiples of 4 together (R20). -/
theorem offset_mod_four (a : Word) : (a.extractLsb' 0 8).toNat % 4 = a.toNat % 4 := by
  rw [BitVec.extractLsb'_toNat, Nat.shiftRight_zero]
  exact Nat.mod_mod_of_dvd _ (by decide)

/-! ### Where a memory access stops (R78, R82, R83) -/

/-- How a host access of memory that begins at `a` stops: not at all where plain memory stands there (log 7). -/
def firstByteStop (p : Platform) (a : Word) : Option (Host.Outcome State Fault Refusal) :=
  match addrKind p a with
  | .plain => none
  | .unbacked => some (.fault (.hostUnbacked a))
  | .device => some (.refused (.deviceAccess a))
  | .window => some (.refused .nonWordAccess)

theorem hostStore_of_stop {s : State} {a : Word} {o : Host.Outcome State Fault Refusal}
    (h : firstByteStop s.platform a = some o) (b : Byte) (bs : List Byte) : hostStore a (b :: bs) s = o := by
  cases hk : addrKind s.platform a with
  | plain => simp [firstByteStop, hk] at h
  | device | window | unbacked => simpa [firstByteStop, hostStore, hk] using h

theorem hostLoad_of_stop {s : State} {a : Word} {o : Host.Outcome State Fault Refusal}
    (h : firstByteStop s.platform a = some o) (n : Nat) : hostLoad a (n + 1) s = o := by
  cases hk : addrKind s.platform a with
  | plain => simp [firstByteStop, hk] at h
  | device | window | unbacked => simpa [firstByteStop, hostLoad, hk] using h

theorem byteAndHalfOps_of_stop {s : State} {d : Word} {o : Host.Outcome State Fault Refusal}
    (hstop : firstByteStop s.platform d = some o) (b : Byte) (h : Half) (bs : List Byte) (hs : List Half) :
    hostOp (.mem8 d (b :: bs)) s = o ∧ hostOp (.mem16 d (h :: hs)) s = o ∧ hostOp (.memRd d) s = o :=
  ⟨hostStore_of_stop (s := { s with host := restMem8 (d + 1) bs s.host }) hstop b [],
    hostStore_of_stop (s := { s with host := restMem16 (d + 2) hs s.host }) hstop _ _, hostLoad_of_stop hstop 0⟩

/-- Outside the window every memory operation stops as its first byte does (log 33). -/
theorem memoryOps_of_stop {s : State} {d : Word} {o : Host.Outcome State Fault Refusal}
    (hstop : firstByteStop s.platform d = some o) (hout : addrKind s.platform d ≠ .window) (b : Byte) (h : Half)
    (w : Word) (bs : List Byte) (hs : List Half) :
    hostOp (.mem8 d (b :: bs)) s = o ∧ hostOp (.mem16 d (h :: hs)) s = o ∧ hostOp (.memRd d) s = o ∧
      hostOp (.busWr d w) s = o ∧ hostOp (.busRd d) s = o := by
  obtain ⟨hmem8, hmem16, hmemRd⟩ := byteAndHalfOps_of_stop hstop b h bs hs
  exact ⟨hmem8, hmem16, hmemRd, (hostOp_busWr_outside hout w).trans (hostStore_of_stop hstop _ _),
    (hostOp_busRd_outside hout).trans (hostLoad_of_stop hstop 3)⟩

/-- Settles O43: the refusals by width and offset, those of memory accesses that begin in the window, and those of its bus
addresses. -/
theorem nonWordAccessIsRefused : Obligations.NonWordAccessIsRefused := by
  intro s off v mask a b h bs hs
  refine ⟨rfl, fun hoff => ?offset, fun hin => ?memory, fun hin ha => ?bus⟩
  case offset =>
    exact ⟨hostWrite_of_unaligned hoff v s, hostRead_of_unaligned hoff s, hostWait_of_unaligned hoff mask v s⟩
  case memory =>
    have hkind : addrKind s.platform a = .window := (addrKind_eq_window_iff s.platform a).2 hin
    exact byteAndHalfOps_of_stop (by simp [firstByteStop, hkind]) b h bs hs
  case bus =>
    have hoff : (a.extractLsb' 0 8).toNat % 4 ≠ 0 := by rwa [offset_mod_four]
    exact ⟨(hostOp_busWr_inside hin v).trans (hostWrite_of_unaligned hoff v s),
      (hostOp_busRd_inside hin).trans (hostRead_of_unaligned hoff s)⟩

/-! ### Engine reads of plain memory (R76) -/

theorem memRead1_of_plain {s : State} {a : Word} (h : addrKind s.platform a = .plain) :
    memRead1 s a = .value (byteAt s a) :=
  memRead1_value_iff.2 ⟨h, rfl⟩

/-- Settles O30: the 2-byte read is two 1-byte reads. -/
theorem samplesAreLittleEndian : Obligations.SamplesAreLittleEndian :=
  fun _ _ hlo hhi => memRead2_value_iff.2 ⟨_, _, memRead1_of_plain hlo, memRead1_of_plain hhi, rfl⟩

/-! ### Runs of plain memory -/

/-- The `n` bytes from `a` on, modulo 2^32, are plain memory. -/
def PlainRun (p : Platform) (a : Word) : Nat → Prop
  | 0 => True
  | n + 1 => addrKind p a = .plain ∧ PlainRun p (a + 1) n

theorem add_one_add_ofNat (a : Word) (k : Nat) : a + 1 + BitVec.ofNat 32 k = a + BitVec.ofNat 32 (k + 1) := by
  rw [Nat.add_comm k 1, BitVec.ofNat_add, BitVec.add_assoc]
  rfl

/-- Less than 2^32 places on from an address is another address. -/
theorem add_ofNat_succ_ne {k : Nat} (hk : k + 1 < 2 ^ 32) (a : Word) : a ≠ a + BitVec.ofNat 32 (k + 1) := by
  intro h
  have hzero : BitVec.ofNat 32 (k + 1) = 0 := by simpa using h.symm
  have hnat := congrArg BitVec.toNat hzero
  rw [BitVec.toNat_ofNat, Nat.mod_eq_of_lt hk] at hnat
  exact Nat.succ_ne_zero k hnat

/-! ### Stores (R81, R84) -/

theorem hostStore_cons_of_plain {s : State} {a : Word} (h : addrKind s.platform a = .plain) (b : Byte) (bs : List Byte) :
    hostStore a (b :: bs) s = hostStore (a + 1) bs (withByte s a b) := by
  simp only [hostStore, h]

/-- A store answers a next state only over plain memory (log 33). -/
theorem hostStore_cons_eq_next_iff {s t : State} {a : Word} {b : Byte} {bs : List Byte} :
    hostStore a (b :: bs) s = .next t ↔
      addrKind s.platform a = .plain ∧ hostStore (a + 1) bs (withByte s a b) = .next t := by
  cases h : addrKind s.platform a with
  | plain => simp [hostStore_cons_of_plain h]
  | device | window | unbacked => simp [hostStore, h]

theorem hostStore_of_plainRun {bs : List Byte} {a : Word} {s : State} (h : PlainRun s.platform a bs.length) :
    ∃ t, hostStore a bs s = .next t := by
  induction bs generalizing a s with
  | nil => exact ⟨s, rfl⟩
  | cons b bs ih =>
    obtain ⟨hplain, hrun⟩ := h
    rw [hostStore_cons_of_plain hplain]
    exact ih (s := withByte s a b) hrun

/-- What the host does next has no part in a store. -/
theorem hostStore_with_host {bs : List Byte} {a : Word} {s t : State} (h : hostStore a bs s = .next t)
    (rest : List HostOp) : hostStore a bs { s with host := rest } = .next { t with host := rest } := by
  induction bs generalizing a s with
  | nil =>
    cases h
    rfl
  | cons b bs ih =>
    obtain ⟨hplain, hstore⟩ := hostStore_cons_eq_next_iff.1 h
    exact hostStore_cons_eq_next_iff.2 ⟨hplain, ih hstore⟩

/-- A store changes no byte outside its run (R81). -/
theorem byteAt_hostStore_outside {bs : List Byte} {a c : Word} {s t : State} (hwf : s.mem.wf = true)
    (h : hostStore a bs s = .next t) (hc : ∀ k < bs.length, c ≠ a + BitVec.ofNat 32 k) : byteAt t c = byteAt s c := by
  induction bs generalizing a s with
  | nil =>
    cases h
    rfl
  | cons b bs ih =>
    obtain ⟨-, hstore⟩ := hostStore_cons_eq_next_iff.1 h
    have hca : c ≠ a := by simpa using hc 0 (Nat.succ_pos _)
    rw [ih (withByte_wf hwf a b) hstore ?outside, byteAt_withByte_other hwf b hca]
    case outside =>
      intro k hk
      rw [add_one_add_ofNat]
      exact hc (k + 1) (Nat.succ_lt_succ hk)

/-- The bytes of a store that is not longer than the address space stand one after the other from its address on (R84). -/
theorem byteAt_hostStore {bs : List Byte} {a : Word} {s t : State} (hwf : s.mem.wf = true)
    (h : hostStore a bs s = .next t) (hlen : bs.length ≤ 2 ^ 32) {k : Nat} (hk : k < bs.length) :
    byteAt t (a + BitVec.ofNat 32 k) = bs[k] := by
  induction bs generalizing a s k with
  | nil => exact absurd hk (Nat.not_lt_zero k)
  | cons b bs ih =>
    obtain ⟨-, hstore⟩ := hostStore_cons_eq_next_iff.1 h
    have hwf' := withByte_wf hwf a b
    rw [List.length_cons] at hlen hk
    cases k with
    | zero =>
      have hfirst : byteAt t a = byteAt (withByte s a b) a := byteAt_hostStore_outside hwf' hstore fun j hj => by
        rw [add_one_add_ofNat]
        exact add_ofNat_succ_ne (by omega) a
      simpa [byteAt_withByte_same hwf] using hfirst
    | succ k =>
      rw [← add_one_add_ofNat, List.getElem_cons_succ]
      exact ih hwf' hstore (by omega) (by omega)

theorem platform_of_hostStore {bs : List Byte} {a : Word} {s t : State} (h : hostStore a bs s = .next t) :
    t.platform = s.platform := by
  rw [(hostStore_next h).1]

/-! ### Loads (R84) -/

theorem hostLoad_succ_of_plain {s : State} {a : Word} (h : addrKind s.platform a = .plain) (n : Nat) :
    hostLoad a (n + 1) s = hostLoad (a + 1) n (noteRead (.memory a (byteAt s a)) s) := by
  simp only [hostLoad, h]

/-- The trace entries of a load of `n` bytes from `a` on (log 19). -/
def loadTrace (s : State) (a : Word) : Nat → List HostRead
  | 0 => []
  | n + 1 => .memory a (byteAt s a) :: loadTrace s (a + 1) n

theorem loadTrace_noteRead (r : HostRead) (s : State) (a : Word) (n : Nat) :
    loadTrace (noteRead r s) a n = loadTrace s a n := by
  induction n generalizing a with
  | zero => rfl
  | succ n ih => rw [loadTrace, loadTrace, ih, byteAt, byteAt, noteRead_mem]

/-- A load of plain memory is its trace entries and nothing else. -/
theorem hostLoad_of_plainRun {n : Nat} {a : Word} {s : State} (h : PlainRun s.platform a n) :
    hostLoad a n s = .next { s with hostReads := s.hostReads ++ loadTrace s a n } := by
  induction n generalizing a s with
  | zero => simp [hostLoad, loadTrace]
  | succ n ih =>
    obtain ⟨hplain, hrun⟩ := h
    rw [hostLoad_succ_of_plain hplain, ih (s := noteRead _ s) hrun, loadTrace_noteRead, noteRead_eq, loadTrace,
      List.append_cons _ _ (loadTrace s (a + 1) n)]

/-! ### The host's memory operations (R113) -/

theorem mem8_stores_a_byte {s : State} {a : Word} (b : Byte) (hwf : s.mem.wf = true)
    (ha : addrKind s.platform a = .plain) :
    ∃ t, hostOp (.mem8 a [b]) s = .next t ∧ t = { s with mem := t.mem } ∧ memRead1 t a = .value b ∧
      ∀ c, c ≠ a → byteAt t c = byteAt s c :=
  ⟨withByte s a b, hostStore_cons_of_plain ha b [], rfl, memRead1_value_iff.2 ⟨ha, byteAt_withByte_same hwf a b⟩,
    fun _ hc => byteAt_withByte_other hwf b hc⟩

/-- A halfword is stored low byte first, and reads back as an engine's sample (R74, R76, R84). -/
theorem mem16_stores_a_halfword {s : State} {a : Word} (h : Half) (hwf : s.mem.wf = true)
    (ha : addrKind s.platform a = .plain) (ha1 : addrKind s.platform (a + 1) = .plain) :
    ∃ t, hostOp (.mem16 a [h]) s = .next t ∧ t = { s with mem := t.mem } ∧ memRead2 t a = .value h ∧
      memRead1 t a = .value (h.extractLsb' 0 8) ∧ memRead1 t (a + 1) = .value (h.extractLsb' 8 8) ∧
      ∀ c, c ≠ a → c ≠ a + 1 → byteAt t c = byteAt s c := by
  obtain ⟨t, ht⟩ : ∃ t, hostStore a [h.extractLsb' 0 8, h.extractLsb' 8 8] s = .next t :=
    hostStore_of_plainRun ⟨ha, ha1, trivial⟩
  have hplatform := platform_of_hostStore ht
  have hlo : byteAt t a = h.extractLsb' 0 8 := by simpa using byteAt_hostStore hwf ht (by simp) (k := 0) (by simp)
  have hhi : byteAt t (a + 1) = h.extractLsb' 8 8 := byteAt_hostStore hwf ht (by simp) (k := 1) (by simp)
  have hread : memRead1 t a = .value (h.extractLsb' 0 8) := memRead1_value_iff.2 ⟨hplatform ▸ ha, hlo⟩
  have hread1 : memRead1 t (a + 1) = .value (h.extractLsb' 8 8) := memRead1_value_iff.2 ⟨hplatform ▸ ha1, hhi⟩
  have hjoin : h.extractLsb' 8 8 ++ h.extractLsb' 0 8 = h := BitVec.extractLsb'_append_extractLsb' (w := 8) (len := 8)
  refine ⟨t, ht, (hostStore_next ht).1, memRead2_value_iff.2 ⟨_, _, hread, hread1, hjoin.symm⟩, hread, hread1,
    fun c hca hca1 => byteAt_hostStore_outside hwf ht fun k hk => ?_⟩
  match k, hk with
  | 0, _ => simpa using hca
  | 1, _ => exact hca1

/-- A word outside the window is stored lowest byte first (R74, log 7). -/
theorem busWr_stores_a_word {s : State} {a : Word} (w : Word) (hwf : s.mem.wf = true) (hrun : PlainRun s.platform a 4) :
    ∃ t, hostOp (.busWr a w) s = .next t ∧ t = { s with mem := t.mem } ∧
      byteAt t a = w.extractLsb' 0 8 ∧ byteAt t (a + 1) = w.extractLsb' 8 8 ∧
      byteAt t (a + 2) = w.extractLsb' 16 8 ∧ byteAt t (a + 3) = w.extractLsb' 24 8 ∧
      ∀ c, c ≠ a → c ≠ a + 1 → c ≠ a + 2 → c ≠ a + 3 → byteAt t c = byteAt s c := by
  have hout : addrKind s.platform a ≠ .window := by simp [hrun.1]
  obtain ⟨t, ht⟩ : ∃ t, hostStore a (bytesOfWord w) s = .next t := hostStore_of_plainRun hrun
  have hbyte : ∀ k (hk : k < 4), byteAt t (a + BitVec.ofNat 32 k) = (bytesOfWord w)[k]'hk :=
    fun _ hk => byteAt_hostStore hwf ht (show 4 ≤ 2 ^ 32 by decide) hk
  refine ⟨t, (hostOp_busWr_outside hout w).trans ht, (hostStore_next ht).1, ?_, hbyte 1 (by decide), hbyte 2 (by decide),
    hbyte 3 (by decide), fun c hc hc1 hc2 hc3 => byteAt_hostStore_outside hwf ht fun k hk => ?_⟩
  · simpa [bytesOfWord] using hbyte 0 (by decide)
  · match k, hk with
    | 0, _ => simpa using hc
    | 1, _ => exact hc1
    | 2, _ => exact hc2
    | 3, _ => exact hc3

theorem plainRun_four {p : Platform} {a : Word} (h : addrKind p a = .plain) (h1 : addrKind p (a + 1) = .plain)
    (h2 : addrKind p (a + 2) = .plain) (h3 : addrKind p (a + 3) = .plain) : PlainRun p a 4 := by
  simp only [PlainRun, BitVec.add_assoc]
  exact ⟨h, h1, h2, h3, trivial⟩

theorem loadTrace_four (s : State) (a : Word) : loadTrace s a 4 =
    [.memory a (byteAt s a), .memory (a + 1) (byteAt s (a + 1)), .memory (a + 2) (byteAt s (a + 2)),
      .memory (a + 3) (byteAt s (a + 3))] := by
  simp [loadTrace, BitVec.add_assoc]

/-- Settles O46: stores and loads of one, two and four plain bytes, and the stop of the first byte that is not plain. -/
theorem storedBytesReadBack : Obligations.StoredBytesReadBack := by
  intro s a b h hwf ha
  refine ⟨mem8_stores_a_byte b hwf ha, mem16_stores_a_halfword h hwf ha, ?rest8, ?rest16, rfl, rfl, ?byteRead, ?wide,
    fun d w bs hs => ⟨fun hd => ?unbacked, fun hd => ?device⟩⟩
  case rest8 => exact fun c bs t ht => hostStore_with_host ht (.mem8 (a + 1) (c :: bs) :: s.host)
  case rest16 => exact fun g hs t ht => hostStore_with_host ht (.mem16 (a + 2) (g :: hs) :: s.host)
  case byteRead => exact hostLoad_of_plainRun (n := 1) ⟨ha, trivial⟩
  case wide =>
    intro ha1 ha2 ha3
    have hrun := plainRun_four ha ha1 ha2 ha3
    have hout : addrKind s.platform a ≠ .window := by simp [ha]
    refine ⟨?_, fun w => busWr_stores_a_word w hwf hrun⟩
    rw [hostOp_busRd_outside hout, hostLoad_of_plainRun hrun, loadTrace_four]
  case unbacked => exact memoryOps_of_stop (by simp [firstByteStop, hd]) (by simp [hd]) b h w bs hs
  case device => exact memoryOps_of_stop (by simp [firstByteStop, hd]) (by simp [hd]) b h w bs hs

end Sys2Proof.Proofs
end


section
/-! The decoder (30_encoding.md R101 to R112): its table, as a relation between the words and the instructions, and what
the table says of the encoder, of the fields an opcode ignores, of FILL and of the reserved opcodes. -/

namespace Sys2Proof.Proofs

open Sys2Proof.Machine Sys2Proof.Laws

/-! ### The decode table -/

/-- The rows of R103, with R105's FILL and R106's reserved opcodes: what OP makes of a descriptor's fields. -/
inductive DescriptorRow (d : Descriptor) : Instr → Prop
  | nop : fieldOp d = 0x0 → DescriptorRow d .nop
  | lcmd : fieldOp d = 0x1 → DescriptorRow d (.lcmd (fieldA d))
  | ldat : fieldOp d = 0x2 → DescriptorRow d (.ldat (fieldA d))
  | pixel : fieldOp d = 0x3 → DescriptorRow d (.pixel (fieldA d).toNat (fieldB d).toNat (fieldColor d))
  | line : fieldOp d = 0x4 → DescriptorRow d
      (.line (fieldA d).toNat (fieldB d).toNat (fieldC d).toNat (fieldE d).toNat (fieldColor d))
  | rect : fieldOp d = 0x5 → fieldFill d = false → DescriptorRow d
      (.rect (fieldA d).toNat (fieldB d).toNat (fieldC d).toNat (fieldE d).toNat (fieldColor d))
  | rectf : fieldOp d = 0x5 → fieldFill d = true → DescriptorRow d
      (.rectf (fieldA d).toNat (fieldB d).toNat (fieldC d).toNat (fieldE d).toNat (fieldColor d))
  | circle : fieldOp d = 0x6 → DescriptorRow d
      (.circle (fieldA d).toNat (fieldB d).toNat (fieldC d).toNat (fieldColor d))
  | char : fieldOp d = 0x7 → DescriptorRow d
      (.char (fieldA d).toNat (fieldB d).toNat (fieldC d).toNat (fieldSize d) (fieldColor d) (fieldBg d))
  | string : fieldOp d = 0x8 → DescriptorRow d
      (.string (fieldA d).toNat (fieldB d).toNat (fieldSize d) (fieldColor d) (fieldBg d))
  | clear : fieldOp d = 0x9 → DescriptorRow d .clear
  | reservedA : fieldOp d = 0xA → DescriptorRow d .reservedA
  | reservedB : fieldOp d = 0xB → DescriptorRow d .reservedB
  | reservedC : fieldOp d = 0xC → DescriptorRow d .reservedC
  | reservedD : fieldOp d = 0xD → DescriptorRow d .reservedD
  | reservedE : fieldOp d = 0xE → DescriptorRow d .reservedE
  | reservedF : fieldOp d = 0xF → DescriptorRow d .reservedF

/-- The rows of R110's table. -/
inductive ControlRow (w : Word) : Instr → Prop
  | audNop : w.extractLsb' 0 2 = 0 → ControlRow w .audNop
  | arm : w.extractLsb' 0 2 = 1 → ControlRow w .arm
  | play : w.extractLsb' 0 2 = 2 → ControlRow w .play
  | stop : w.extractLsb' 0 2 = 3 → ControlRow w .stop

theorem descriptorRow_decodeDescriptor (d : Descriptor) : DescriptorRow d (decodeDescriptor d) := by
  unfold decodeDescriptor
  split
  case h_1 hop => exact .nop (BitVec.eq_of_toNat_eq hop)
  case h_2 hop => exact .lcmd (BitVec.eq_of_toNat_eq hop)
  case h_3 hop => exact .ldat (BitVec.eq_of_toNat_eq hop)
  case h_4 hop => exact .pixel (BitVec.eq_of_toNat_eq hop)
  case h_5 hop => exact .line (BitVec.eq_of_toNat_eq hop)
  case h_6 hop =>
    split
    case isTrue hfill => exact .rectf (BitVec.eq_of_toNat_eq hop) hfill
    case isFalse hfill => exact .rect (BitVec.eq_of_toNat_eq hop) (Bool.eq_false_of_not_eq_true hfill)
  case h_7 hop => exact .circle (BitVec.eq_of_toNat_eq hop)
  case h_8 hop => exact .char (BitVec.eq_of_toNat_eq hop)
  case h_9 hop => exact .string (BitVec.eq_of_toNat_eq hop)
  case h_10 hop => exact .clear (BitVec.eq_of_toNat_eq hop)
  case h_11 hop => exact .reservedA (BitVec.eq_of_toNat_eq hop)
  case h_12 hop => exact .reservedB (BitVec.eq_of_toNat_eq hop)
  case h_13 hop => exact .reservedC (BitVec.eq_of_toNat_eq hop)
  case h_14 hop => exact .reservedD (BitVec.eq_of_toNat_eq hop)
  case h_15 hop => exact .reservedE (BitVec.eq_of_toNat_eq hop)
  case h_16 =>
    -- the last row is what is left of the sixteen values
    have hlt : (fieldOp d).toNat < 16 := (fieldOp d).isLt
    simp only [imp_false] at *
    have hop : (fieldOp d).toNat = 15 := by omega
    exact .reservedF (BitVec.eq_of_toNat_eq hop)

/-- Decoding is the table: a descriptor decodes to the instruction whose row it meets, and to no other. -/
theorem decodeDescriptor_eq_iff (d : Descriptor) (i : Instr) : decodeDescriptor d = i ↔ DescriptorRow d i := by
  refine ⟨fun h => h ▸ descriptorRow_decodeDescriptor d, fun hrow => ?_⟩
  cases hrow <;> simp [decodeDescriptor, *]

theorem controlRow_decodeControl (w : Word) : ControlRow w (decodeControl w) := by
  unfold decodeControl
  split
  case h_1 hop => exact .audNop (BitVec.eq_of_toNat_eq hop)
  case h_2 hop => exact .arm (BitVec.eq_of_toNat_eq hop)
  case h_3 hop => exact .play (BitVec.eq_of_toNat_eq hop)
  case h_4 =>
    have hlt : (w.extractLsb' 0 2).toNat < 4 := (w.extractLsb' 0 2).isLt
    simp only [imp_false] at *
    have hop : (w.extractLsb' 0 2).toNat = 3 := by omega
    exact .stop (BitVec.eq_of_toNat_eq hop)

theorem decodeControl_eq_iff (w : Word) (i : Instr) : decodeControl w = i ↔ ControlRow w i := by
  refine ⟨fun h => h ▸ controlRow_decodeControl w, fun hrow => ?_⟩
  cases hrow <;> simp [decodeControl, *]

/-! ### Encoded instructions (R112) -/

/-- An encoding meets the row of an instruction. -/
def MeetsRow : Encoded → Instr → Prop
  | .raster d, i => DescriptorRow d i
  | .audio w, i => ControlRow w i

theorem decode_eq_iff (e : Encoded) (i : Instr) : decode e = i ↔ MeetsRow e i := by
  cases e with
  | raster d => exact decodeDescriptor_eq_iff d i
  | audio w => exact decodeControl_eq_iff w i

/-- Each constructor's encoding carries the row's OP and, field by field, the operands the row reads. -/
theorem encode_meetsRow {i : Instr} (hwf : i.wellFormed = true) : MeetsRow (encode i) i := by
  cases i with
  | nop => exact .nop EncodeOpcode.nop
  | lcmd byte => simpa [MeetsRow, encode] using DescriptorRow.lcmd (EncodeOpcode.lcmd byte)
  | ldat byte => simpa [MeetsRow, encode] using DescriptorRow.ldat (EncodeOpcode.ldat byte)
  | pixel x y color =>
    simp only [Instr.wellFormed, Bool.and_eq_true] at hwf
    simpa [MeetsRow, encode, toNat_field8, hwf] using DescriptorRow.pixel (EncodeOpcode.pixel x y color)
  | line x0 y0 x1 y1 color =>
    simp only [Instr.wellFormed, Bool.and_eq_true] at hwf
    simpa [MeetsRow, encode, toNat_field8, hwf] using DescriptorRow.line (EncodeOpcode.line x0 y0 x1 y1 color)
  | rect x0 y0 x1 y1 color =>
    simp only [Instr.wellFormed, Bool.and_eq_true] at hwf
    obtain ⟨hop, hfill⟩ := EncodeOpcode.rect x0 y0 x1 y1 color
    simpa [MeetsRow, encode, toNat_field8, hwf] using DescriptorRow.rect hop hfill
  | rectf x0 y0 x1 y1 color =>
    simp only [Instr.wellFormed, Bool.and_eq_true] at hwf
    obtain ⟨hop, hfill⟩ := EncodeOpcode.rectf x0 y0 x1 y1 color
    simpa [MeetsRow, encode, toNat_field8, hwf] using DescriptorRow.rectf hop hfill
  | circle x0 y0 r color =>
    simp only [Instr.wellFormed, Bool.and_eq_true] at hwf
    simpa [MeetsRow, encode, toNat_field8, hwf] using DescriptorRow.circle (EncodeOpcode.circle x0 y0 r color)
  | char x y code size fg bg =>
    simp only [Instr.wellFormed, Bool.and_eq_true] at hwf
    simpa [MeetsRow, encode, toNat_field8, hwf] using DescriptorRow.char (EncodeOpcode.char x y code size fg bg)
  | string x y size fg bg =>
    simp only [Instr.wellFormed, Bool.and_eq_true] at hwf
    simpa [MeetsRow, encode, toNat_field8, hwf] using DescriptorRow.string (EncodeOpcode.string x y size fg bg)
  | clear => exact .clear EncodeOpcode.clear
  | reservedA => exact .reservedA EncodeOpcode.reservedA
  | reservedB => exact .reservedB EncodeOpcode.reservedB
  | reservedC => exact .reservedC EncodeOpcode.reservedC
  | reservedD => exact .reservedD EncodeOpcode.reservedD
  | reservedE => exact .reservedE EncodeOpcode.reservedE
  | reservedF => exact .reservedF EncodeOpcode.reservedF
  | audNop => exact .audNop EncodeOpcode.audNop
  | arm => exact .arm EncodeOpcode.arm
  | play => exact .play EncodeOpcode.play
  | stop => exact .stop EncodeOpcode.stop

/-- Settles O5: the encoding of a well-formed instruction meets the instruction's own row, and decoding is the table. -/
theorem encodedInstructionsDecodeBack : Obligations.EncodedInstructionsDecodeBack :=
  fun i hwf => (decode_eq_iff (encode i) i).2 (encode_meetsRow hwf)

/-! ### The table against the bits (R101, R103, R110) -/

/-- Settles O4: the words are computed, and each branch of the two tables is the row of its OP. -/
theorem specWordsDecode : Obligations.SpecWordsDecode := by
  refine ⟨by decide, ?descriptor, ?control⟩
  case descriptor =>
    rintro d _ _ _ _ _ _ _ rfl rfl rfl rfl rfl rfl rfl
    rw [decodeDescriptor_eq_iff]
    refine iteInduction .nop fun _ => iteInduction .lcmd fun _ => iteInduction .ldat fun _ =>
      iteInduction .pixel fun _ => iteInduction .line fun _ =>
      iteInduction (fun hop => iteInduction (.rectf hop) fun hfill => ?rect) fun _ =>
      iteInduction .circle fun _ => iteInduction .char fun _ => iteInduction .string fun _ =>
      iteInduction .clear fun _ => iteInduction .reservedA fun _ => iteInduction .reservedB fun _ =>
      iteInduction .reservedC fun _ => iteInduction .reservedD fun _ => iteInduction .reservedE fun _ => .reservedF ?last
    case rect => exact .rect hop (Bool.eq_false_of_not_eq_true hfill)
    case last =>
      unfold fieldOp
      bv_omega
  case control =>
    intro w
    rw [decodeControl_eq_iff]
    refine iteInduction .audNop fun _ => iteInduction .arm fun _ => iteInduction .play fun _ => .stop ?_
    bv_omega

/-! ### Fields an opcode ignores (R104, R105, R107) -/

/-- Settles O6: a descriptor that agrees on the fields of a row meets that row. -/
theorem unusedFieldsAreIgnored : Obligations.UnusedFieldsAreIgnored := by
  refine ⟨fun d d' hop hA hBColor hC hE hFill hBgSize => ?_,
    fun w w' hop => by rw [decodeControl, hop, decodeControl]⟩
  refine ((decodeDescriptor_eq_iff d' _).2 ?_).symm
  have hrow := descriptorRow_decodeDescriptor d
  generalize decodeDescriptor d = i at hrow ⊢
  cases hrow with
  | nop h => exact .nop (hop ▸ h)
  | lcmd h =>
    rw [hA (by simp [h])]
    exact .lcmd (hop ▸ h)
  | ldat h =>
    rw [hA (by simp [h])]
    exact .ldat (hop ▸ h)
  | pixel h =>
    obtain ⟨hB, hColor⟩ := hBColor (by simp [h])
    rw [hA (by simp [h]), hB, hColor]
    exact .pixel (hop ▸ h)
  | line h =>
    obtain ⟨hB, hColor⟩ := hBColor (by simp [h])
    rw [hA (by simp [h]), hB, hC (by simp [h]), hE (by simp [h]), hColor]
    exact .line (hop ▸ h)
  | rect h hfill =>
    obtain ⟨hB, hColor⟩ := hBColor (by simp [h])
    rw [hA (by simp [h]), hB, hC (by simp [h]), hE (by simp [h]), hColor]
    exact .rect (hop ▸ h) (hFill (by simp [h]) ▸ hfill)
  | rectf h hfill =>
    obtain ⟨hB, hColor⟩ := hBColor (by simp [h])
    rw [hA (by simp [h]), hB, hC (by simp [h]), hE (by simp [h]), hColor]
    exact .rectf (hop ▸ h) (hFill (by simp [h]) ▸ hfill)
  | circle h =>
    obtain ⟨hB, hColor⟩ := hBColor (by simp [h])
    rw [hA (by simp [h]), hB, hC (by simp [h]), hColor]
    exact .circle (hop ▸ h)
  | char h =>
    obtain ⟨hB, hColor⟩ := hBColor (by simp [h])
    obtain ⟨hBg, hSize⟩ := hBgSize (by simp [h])
    rw [hA (by simp [h]), hB, hC (by simp [h]), hSize, hColor, hBg]
    exact .char (hop ▸ h)
  | string h =>
    obtain ⟨hB, hColor⟩ := hBColor (by simp [h])
    obtain ⟨hBg, hSize⟩ := hBgSize (by simp [h])
    rw [hA (by simp [h]), hB, hSize, hColor, hBg]
    exact .string (hop ▸ h)
  | clear h => exact .clear (hop ▸ h)
  | reservedA h => exact .reservedA (hop ▸ h)
  | reservedB h => exact .reservedB (hop ▸ h)
  | reservedC h => exact .reservedC (hop ▸ h)
  | reservedD h => exact .reservedD (hop ▸ h)
  | reservedE h => exact .reservedE (hop ▸ h)
  | reservedF h => exact .reservedF (hop ▸ h)

/-- Inverting bits outside a field leaves the field. -/
theorem extractLsb'_xor_of_mask_clear {d mask : Descriptor} {start len : Nat} (h : mask.extractLsb' start len = 0) :
    (d ^^^ mask).extractLsb' start len = d.extractLsb' start len := by
  rw [BitVec.extractLsb'_xor, h]
  exact BitVec.xor_zero

/-- FILL is no operand outside OP = 0x5, and every other field lies off bit 56. -/
theorem decodeDescriptor_flipFill {d : Descriptor} (h : fieldOp d ≠ 0x5) :
    decodeDescriptor (d ^^^ 0x0100000000000000#64) = decodeDescriptor d := by
  have field {start len : Nat} (hmask : (0x0100000000000000#64).extractLsb' start len = 0) :
      d.extractLsb' start len = (d ^^^ 0x0100000000000000#64).extractLsb' start len :=
    (extractLsb'_xor_of_mask_clear hmask).symm
  exact (unusedFieldsAreIgnored.1 d _ (field rfl) (fun _ => field rfl) (fun _ => ⟨field rfl, field rfl⟩)
    (fun _ => field rfl) (fun _ => field rfl) (fun h5 => absurd (BitVec.eq_of_toNat_eq h5) h)
    (fun _ => ⟨field rfl, field rfl⟩)).symm

/-- Settles O7: the two rows of OP = 0x5, and FILL ignored in the others. -/
theorem fillSelectsTheRectangle : Obligations.FillSelectsTheRectangle :=
  ⟨fun d hop hfill => (decodeDescriptor_eq_iff d _).2 (.rectf hop hfill),
    fun d hop hfill => (decodeDescriptor_eq_iff d _).2 (.rect hop hfill), fun _ hop => decodeDescriptor_flipFill hop⟩

/-! ### Instructions that run nothing (R106, R110, R235) -/

theorem reserved_of_high_op {d : Descriptor} (h : 0xA ≤ (fieldOp d).toNat) : decodeDescriptor d ∈
    [Instr.reservedA, .reservedB, .reservedC, .reservedD, .reservedE, .reservedF] := by
  have hrow := descriptorRow_decodeDescriptor d
  generalize decodeDescriptor d = i at hrow ⊢
  cases hrow
  case reservedA | reservedB | reservedC | reservedD | reservedE | reservedF => simp
  -- the other rows have an OP below 0xA
  all_goals simp_all

theorem decodeDescriptor_eq_nop_iff (d : Descriptor) : decodeDescriptor d = .nop ↔ fieldOp d = 0x0 := by
  rw [decodeDescriptor_eq_iff]
  exact ⟨fun hrow => by cases hrow; assumption, .nop⟩

/-- Launching a reserved opcode where BUSY = 0: the sequencer that raising the error would stop is Idle already. -/
theorem launchIllegal_latches_and_records {s : State} (h : gfxBusy s = false) : launchIllegal s =
    .next { s with latched := s.cmdHi ++ s.cmdLo, gfxErr := some (s.gfxErr.getD .illegal) } := by
  rw [launchIllegal_of_idle h, raiseGfx_eq, ← (gfxBusy_eq_false_iff s).1 h]

/-- Settles O22: the table's reserved rows, NOP's row, and the launch that all six reserved opcodes share. -/
theorem reservedOpcodesAreIllegal : Obligations.ReservedOpcodesAreIllegal := by
  refine ⟨fun _ => reserved_of_high_op, decodeDescriptor_eq_nop_iff, fun s h => ?_⟩
  have hlaunch := launchIllegal_latches_and_records h
  exact ⟨hlaunch, hlaunch, hlaunch, hlaunch, hlaunch, hlaunch⟩

/-- Settles O24: AUD_CTRL runs what its word decodes to, here the operation that answers its own state. -/
theorem audioNoOperationDoesNothing : Obligations.AudioNoOperationDoesNothing := by
  intro s w hop
  have hdecode : decodeControl w = .audNop := (decodeControl_eq_iff w _).2 (.audNop hop)
  refine ⟨hdecode, rfl, ?_⟩
  rw [hostWrite_audCtrl, hdecode]
  rfl

end Sys2Proof.Proofs
end


section
/-! The host's own steps (30_encoding.md R100, R101, R108, R113): a table word placed for the next step, and one poll of
WAIT. -/

namespace Sys2Proof.Proofs

open Sys2Proof.Machine

/-! ### Table words (R74, R100, R101) -/

theorem wordOfBytes_bytesOfWord (w : Word) :
    wordOfBytes (w.extractLsb' 0 8) (w.extractLsb' 8 8) (w.extractLsb' 16 8) (w.extractLsb' 24 8) = w := by
  have upper : w.extractLsb' 24 8 ++ w.extractLsb' 16 8 = w.extractLsb' 16 16 :=
    BitVec.extractLsb'_append_extractLsb'_eq_extractLsb' rfl
  have upperThree : w.extractLsb' 16 16 ++ w.extractLsb' 8 8 = w.extractLsb' 8 24 :=
    BitVec.extractLsb'_append_extractLsb'_eq_extractLsb' rfl
  have whole : w.extractLsb' 8 24 ++ w.extractLsb' 0 8 = w.extractLsb' 0 32 :=
    BitVec.extractLsb'_append_extractLsb'_eq_extractLsb' rfl
  rw [wordOfBytes, upper, upperThree, whole, BitVec.extractLsb'_eq_self]

theorem decodeTableWord_control {nbits : Nat} (h : nbits ≤ 32) (w : Nat) :
    decodeTableWord nbits w = some (decodeControl (BitVec.ofNat 32 w)) := by
  simp [decodeTableWord, portOfBits, h, tableBytes, bytesOfWord, decodeBytes, wordOfBytes_bytesOfWord]

theorem decodeTableWord_descriptor {nbits : Nat} (hlo : 32 < nbits) (hhi : nbits ≤ 64) (w : Nat) :
    decodeTableWord nbits w = some (decodeDescriptor (BitVec.ofNat 32 (w / 2 ^ 32) ++ BitVec.ofNat 32 w)) := by
  simp [decodeTableWord, portOfBits, hlo.not_ge, hhi, tableBytes, bytesOfWord, decodeBytes, wordOfBytes_bytesOfWord]

theorem decodeTableWord_of_too_wide {nbits : Nat} (h : 64 < nbits) (w : Nat) : decodeTableWord nbits w = none := by
  have hhi : ¬ nbits ≤ 32 := by omega
  simp [decodeTableWord, portOfBits, hhi, h.not_ge]

/-! ### The step after withFetchWord (R108, R110) -/

theorem step_withFetchWord_control {nbits : Nat} (h : nbits ≤ 32) (s : State) (w : Nat) :
    step (s.withFetchWord nbits w) = exec (decodeControl (BitVec.ofNat 32 w)) { s with turn := s.turn + 1 } := by
  have hport : portOfBits nbits = some .audio := if_pos h
  rw [State.withFetchWord, hport, ← hostWrite_audCtrl]
  exact step_of_window_write rfl (.inl rfl)

theorem step_withFetchWord_descriptor {nbits : Nat} (hlo : 32 < nbits) (hhi : nbits ≤ 64) (s : State) (w : Nat) :
    step (s.withFetchWord nbits w) = exec (decodeDescriptor (BitVec.ofNat 32 (w / 2 ^ 32) ++ BitVec.ofNat 32 w))
      { s with
        cmdLo := BitVec.ofNat 32 w
        cmdHi := BitVec.ofNat 32 (w / 2 ^ 32)
        seq := .idle
        turn := s.turn + 1 } := by
  have hport : portOfBits nbits = some .raster := by simp [portOfBits, hlo.not_ge, hhi]
  rw [State.withFetchWord, hport]
  refine (step_of_window_write rfl (.inl rfl)).trans ?_
  exact hostWrite_cmdHi_of_idle rfl _

/-- Settles O9: a table word is a control word or a descriptor by its width, and the next step is its launching write. -/
theorem fetchedWordRuns : Obligations.FetchedWordRuns := by
  intro s nbits w i hdecode
  refine ⟨fun hcontrol => ?_, fun hlo => ?_⟩
  · obtain rfl : decodeControl (BitVec.ofNat 32 w) = i :=
      Option.some.inj ((decodeTableWord_control hcontrol w).symm.trans hdecode)
    exact step_withFetchWord_control hcontrol s w
  · have hhi : nbits ≤ 64 := by
      by_contra hwide
      rw [decodeTableWord_of_too_wide (by omega)] at hdecode
      cases hdecode
    obtain rfl : decodeDescriptor (BitVec.ofNat 32 (w / 2 ^ 32) ++ BitVec.ofNat 32 w) = i :=
      Option.some.inj ((decodeTableWord_descriptor hlo hhi w).symm.trans hdecode)
    exact step_withFetchWord_descriptor hlo hhi s w

/-! ### WAIT (R113) -/

theorem hostWait_of_aligned {off : BitVec 8} (h : off.toNat % 4 = 0) (mask value : Word) (s : State) :
    hostWait off mask value s =
      if readWindow off s &&& mask = value then .next (noteRead (.register off (readWindow off s)) s)
      else .next { noteRead (.register off (readWindow off s)) s with host := .wait off mask value :: s.host } :=
  if_pos ((wordAligned_iff off).2 h)

/-- Settles O44: the poll's two outcomes. -/
theorem waitRepeatsUntilItMatches : Obligations.WaitRepeatsUntilItMatches := by
  intro s off mask value hword
  have hpoll : hostOp (.wait off mask value) s = _ := hostWait_of_aligned hword mask value s
  rw [hpoll]
  exact ⟨fun hmatch => if_pos hmatch, fun hmiss => if_neg hmiss⟩

end Sys2Proof.Proofs
end


section
/-! The link (40_link.md): a frame's bits and its emission, the link commands and NOP, how many frames a command emits, and
a packed pair under the reference controller. -/

namespace Sys2Proof.Proofs

open Sys2Proof.Machine Sys2Proof.Safety

/-! ### A frame on the line (R130, R131, R136) -/

theorem shiftOut_eq (n : Nat) (fl : Flight) : shiftOut n fl = { fl with shifted := fl.shifted + n } := by
  induction n generalizing fl with
  | zero => rfl
  | succ n ih => rw [shiftOut, ih, Nat.add_right_comm, Nat.add_assoc]

theorem linkIdle_frameOut (f : Frame) (s : State) : LinkIdle (frameOut f s) := ⟨rfl, rfl, rfl, rfl⟩

/-- Settles O52: the line shows the bit below those already out, and an emission is one record update. -/
theorem frameGoesOutTagFirst : Obligations.FrameGoesOutTagFirst := by
  intro f s
  refine ⟨fun n _ => ?_, frameOut_frames f s, linkIdle_frameOut f s, frameOut_eq f s⟩
  rw [shiftOut_eq, lineBit, Nat.zero_add]

/-! ### NOP (R108, R141) -/

theorem rasterRun_of_idle {s : State} (h : s.seq = .idle) (n : Nat) : rasterRun n s = .next s := by
  induction n with
  | zero => rfl
  | succ n ih => rw [rasterRun_succ (rasterStep_of_idle h), ih]

/-- Settles O10: NOP's row of the table, its launch, and a sequencer that was Idle and stays so. -/
theorem nopDoesNothing : Obligations.NopDoesNothing := by
  refine ⟨fun d => (decodeDescriptor_eq_nop_iff d).2, fun s hb => ⟨launchNothing_of_idle hb, fun n => ?_⟩⟩
  exact rasterRun_of_idle (s := { s with latched := s.cmdHi ++ s.cmdLo }) ((gfxBusy_eq_false_iff s).1 hb) n

/-! ### LCMD and LDAT (R139, R140) -/

theorem sameInputs_launched (c : Ctl) (s : State) : SameInputs s (launched c s) := ⟨rfl, rfl, rfl, rfl, rfl, rfl, rfl⟩

/-- A body of one frame: BUSY outlives the frame by the completion step (R108, R139). -/
theorem rasterRun_of_one_frame {s : State} {c : Ctl} {f : Frame} (hidle : LinkIdle s)
    (hact : nextAct c s = .emit [f] .finish) :
    rasterRun 1 (launched c s) = .next { launched .finish s with frames := s.frames ++ [f] } ∧
      rasterRun 2 (launched c s) = .next (drawn [f] s) := by
  have hemit := rasterRun_emit (t := launched c s) (sameInputs_launched c s) hidle rfl hact
  exact ⟨hemit 0, hemit 1⟩

/-- Settles O11: the table's rows, the launch, and the run of a body of one frame, once for each tag. -/
theorem linkCommandsEmitOneFrame : Obligations.LinkCommandsEmitOneFrame := by
  refine ⟨fun d hop => (decodeDescriptor_eq_iff d _).2 (.lcmd hop), fun d hop => (decodeDescriptor_eq_iff d _).2 (.ldat hop),
    fun s b hb hidle => ?_⟩
  obtain ⟨hcmd, hcmdDone⟩ := rasterRun_of_one_frame (c := .lcmd b) (f := cmdFrame b) hidle rfl
  obtain ⟨hdat, hdatDone⟩ := rasterRun_of_one_frame (c := .ldat b) (f := dataFrame b) hidle rfl
  exact ⟨launch_of_idle hb _, rfl, hcmd, hcmdDone, launch_of_idle hb _, rfl, hdat, hdatDone⟩

/-! ### How many frames a command emits (R144) -/

@[simp] theorem length_refEmit (fs : List Frame) (r : BodyRun) :
    (refEmit fs r).frames.length = fs.length + r.frames.length := List.length_append

@[simp] theorem length_refDone : refDone.frames.length = 0 := rfl

@[simp] theorem length_windowFrames (opc : BitVec 24) (r0 r1 c0 c1 : Int) : (windowFrames opc r0 r1 c0 c1).length = 7 := rfl

@[simp] theorem length_pairFrames (c0 c1 : Colour) : (pairFrames c0 c1).length = 3 := rfl

@[simp] theorem length_pixelFrames (opc : BitVec 24) (p : Point) (c : Colour) : (pixelFrames opc p c).length = 10 := rfl

@[simp] theorem length_pixelsFrames (opc : BitVec 24) (ps : List Point) (c : Colour) :
    (pixelsFrames opc ps c).length = 10 * ps.length := by
  simp [pixelsFrames, List.length_flatMap, Nat.mul_comm]

@[simp] theorem length_pairsFrames (c : Colour) (n : Nat) : (pairsFrames c n).length = 3 * n := by
  induction n with
  | zero => rfl
  | succ n ih => rw [pairsFrames, List.length_append, ih, length_pairFrames, Nat.mul_succ, Nat.add_comm]

/-! #### LINE and RECT (R152, R158) -/

theorem length_lineRun (n : Nat) (v : LineVars) : (lineRun n v).length = n := by
  induction n generalizing v with
  | zero => rfl
  | succ n ih => rw [lineRun, List.length_cons, ih]

theorem lineInit_left (g : Segment) :
    (lineInit g).left = max (g.x1 - g.x0).natAbs (g.y1 - g.y0).natAbs + 1 := by
  simp only [lineInit, Int.abs_eq_natAbs]
  split
  · simp only [Int.toNat_natCast]
    omega
  · simp only [Int.toNat_natCast]
    omega

@[simp] theorem length_linePoints (x0 y0 x1 y1 : Int) :
    (linePoints x0 y0 x1 y1).length = max (x1 - x0).natAbs (y1 - y0).natAbs + 1 :=
  (length_lineRun _ _).trans (lineInit_left _)

/-- Two segments along each axis (R158). -/
theorem length_rectPoints (x0 y0 x1 y1 : Int) :
    (rectPoints x0 y0 x1 y1).length = 2 * ((x1 - x0).natAbs + 1) + 2 * ((y1 - y0).natAbs + 1) := by
  simp only [rectPoints, List.length_append, length_linePoints, sub_self, Int.natAbs_zero]
  omega

/-! #### RECTF (R155, R156) -/

theorem boxArea_boundingBox (x0 y0 x1 y1 : Nat) :
    boxArea (boundingBox x0 y0 x1 y1) = (max x0 x1 - min x0 x1 + 1) * (max y0 y1 - min y0 y1 + 1) := by
  have side (a b : Nat) : max (a : Int) b - min (a : Int) b + 1 = ((max a b - min a b + 1 : Nat) : Int) := by omega
  simp only [boxArea, boundingBox, side]
  rw [← Nat.cast_mul, Int.toNat_natCast]

/-! #### CIRCLE (R160) -/

@[simp] theorem length_circleOctants (c : CircleVars) : (circleOctants c).length = 8 := rfl

/-- From round k on, with at most m rounds to go: the loop runs as long as u < v, eight points a round. -/
theorem length_circleRun_circleVarsAt (x0 y0 r : Int) (m k : Nat)
    (hm : (circleVarsAt x0 y0 r k).v ≤ (circleVarsAt x0 y0 r k).u + m) :
    ∃ n, n ≤ m ∧ (circleRun m (circleVarsAt x0 y0 r k)).length = 8 * n ∧
      (∀ j, k ≤ j → j < k + n → (circleVarsAt x0 y0 r j).u < (circleVarsAt x0 y0 r j).v) ∧
      (circleVarsAt x0 y0 r (k + n)).v ≤ (circleVarsAt x0 y0 r (k + n)).u := by
  induction m generalizing k with
  | zero => exact ⟨0, le_rfl, rfl, fun j _ _ => by omega, by simpa using hm⟩
  | succ m ih =>
    by_cases huv : (circleVarsAt x0 y0 r k).u < (circleVarsAt x0 y0 r k).v
    · have hnext : (circleVarsAt x0 y0 r (k + 1)).v ≤ (circleVarsAt x0 y0 r (k + 1)).u + m := by
        have hv := circleNext_v_le (circleVarsAt x0 y0 r k)
        rw [circleVarsAt, circleNext_u]
        omega
      obtain ⟨n, hn, hlen, hrounds, hend⟩ := ih (k + 1) hnext
      refine ⟨n + 1, by omega, ?_, fun j hkj hj => ?_, by rwa [Nat.add_comm n, ← Nat.add_assoc]⟩
      · rw [circleVarsAt] at hlen
        rw [circleRun, if_pos huv, List.length_append, length_circleOctants, hlen, Nat.mul_succ, Nat.add_comm]
      · rcases hkj.eq_or_lt with rfl | hlt
        · exact huv
        · exact hrounds j hlt (by omega)
    · exact ⟨0, Nat.zero_le _, by rw [circleRun, if_neg huv]; rfl, fun j _ _ => by omega, not_lt.1 huv⟩

/-- R160's n, the number of rounds of the loop. -/
theorem length_circlePoints (x0 y0 : Int) (r : Nat) :
    ∃ n, n ≤ r ∧ (circlePoints x0 y0 r).length = 4 + 8 * n ∧
      (∀ j, j < n → (circleVarsAt x0 y0 r j).u < (circleVarsAt x0 y0 r j).v) ∧
      (circleVarsAt x0 y0 r n).v ≤ (circleVarsAt x0 y0 r n).u := by
  obtain ⟨n, hn, hlen, hrounds, hend⟩ := length_circleRun_circleVarsAt x0 y0 r r 0 (by simp [circleVarsAt, circleInit])
  rw [Nat.zero_add] at hend hrounds
  refine ⟨n, hn, ?_, fun j => hrounds j (Nat.zero_le j), hend⟩
  exact List.length_append.trans (congrArg (4 + ·) hlen)

/-! #### CHAR (R184, R187) -/

theorem length_rowPairs (g : GlyphVars) (bits : Byte) (n j : Nat) : (rowPairs g bits n j).length = 3 * n := by
  induction n generalizing j with
  | zero => rfl
  | succ n ih => rw [rowPairs, List.length_append, ih, length_pairFrames, Nat.mul_succ, Nat.add_comm]

@[simp] theorem length_rowFrames (g : GlyphVars) (h : GlyphHeader) (bits : Byte) :
    (rowFrames g h bits).length = 3 * (h.cols / 2) := length_rowPairs g bits _ 0

@[simp] theorem length_glyphWindow (opc : BitVec 24) (g : GlyphVars) (h : GlyphHeader) : (glyphWindow opc g h).length = 7 :=
  rfl

/-- Pseudocode that completes after a read had the read answered, and goes on with the byte (R11, R236). -/
theorem refRead_of_done {s : State} {a : Word} {k : Byte → BodyRun} (h : (refRead s a k).result = .done) :
    ∃ b, memRead1 s a = .value b ∧ (k b).result = .done ∧ (refRead s a k).frames = (k b).frames := by
  obtain ⟨b, hb⟩ := memRead1_value_of_ends (.inl h)
  rw [refRead_of_value hb] at h ⊢
  exact ⟨b, hb, h, rfl⟩

/-- Pseudocode that completes has passed its check. -/
theorem passed_of_done {p : Prop} [Decidable p] {e : GfxError} {r : BodyRun}
    (h : (if p then r else refFail e).result = .done) : p ∧ (if p then r else refFail e) = r := by
  by_cases hp : p
  · exact ⟨hp, if_pos hp⟩
  · rw [if_neg hp] at h
    cases h

/-- n rows that complete emit their pairs, and then what follows them emits its frames. -/
theorem length_refRows {s : State} {g : GlyphVars} {h : GlyphHeader} {after : BodyRun} {n : Nat}
    (hdone : (refRows s g h after n).result = .done) :
    (refRows s g h after n).frames.length = 3 * (n * (h.cols / 2)) + after.frames.length := by
  induction n with
  | zero => simp [refRows]
  | succ n ih =>
    obtain ⟨b, -, hrow, hframes⟩ := refRead_of_done hdone
    rw [refRows, hframes, length_refEmit, length_rowFrames, ih hrow, Nat.succ_mul]
    ring

/-- A glyph that is drawn to its end passed its checks, read its header, and emitted its window and its rows (R187). -/
theorem length_refGlyph {s : State} {g : GlyphVars} {after : BodyRun} {cols rows : Byte}
    (hcols : memRead1 s (fontBase s g.size) = .value cols) (hrows : memRead1 s (fontBase s g.size + 1) = .value rows)
    (hdone : (refGlyph s g after).result = .done) :
    (refGlyph s g after).frames.length = 7 + 3 * (rows.toNat * (cols.toNat / 2)) + after.frames.length := by
  have hcols' : memRead1 s (headerAddr (fontBase s g.size) 0) = .value cols := by simpa [headerAddr] using hcols
  have hrows' : memRead1 s (headerAddr (fontBase s g.size) 1) = .value rows := hrows
  rw [refGlyph] at hdone ⊢
  by_cases hsize : g.size = 3
  · rw [if_pos hsize] at hdone
    cases hdone
  rw [if_neg hsize] at hdone ⊢
  obtain ⟨-, hcode⟩ := passed_of_done hdone
  rw [hcode, refRead_of_value hcols', refRead_of_value hrows'] at hdone ⊢
  obtain ⟨stride, -, hchecked, hframes⟩ := refRead_of_done hdone
  obtain ⟨-, hvalid⟩ := passed_of_done hchecked
  rw [hvalid] at hchecked hframes
  obtain ⟨-, hpanel⟩ := passed_of_done hchecked
  rw [hpanel] at hchecked hframes
  refine (congrArg List.length hframes).trans ?_
  rw [length_refEmit, length_glyphWindow, length_refRows hchecked, Nat.add_assoc]

theorem length_refBody_char {s : State} {x y code : Nat} {size : BitVec 2} {fg bg : Colour} {cols rows : Byte}
    (hcols : memRead1 s (fontBase s size) = .value cols) (hrows : memRead1 s (fontBase s size + 1) = .value rows)
    (hdone : (refBody (.char x y code size fg bg) s).result = .done) :
    (refBody (.char x y code size fg bg) s).frames.length = 7 + 3 * (rows.toNat * (cols.toNat / 2)) := by
  rw [refBody] at hdone ⊢
  obtain ⟨-, hpanel⟩ := passed_of_done hdone
  rw [hpanel] at hdone ⊢
  exact length_refGlyph hcols hrows hdone

/-- Settles O57: what each command in range draws, and the number of frames of each thing drawn. -/
theorem frameCountsMatchTheTable : Obligations.FrameCountsMatchTheTable := by
  intro s c bg b x0 y0 x1 y1 r code size
  refine ⟨rfl, rfl, rfl, ?clear, fun hx hy => ?pixel, fun hx0 hy0 hx1 hy1 => ⟨?line, ?rectf, ?rect⟩,
    fun hx hy hx' hy' => ?circle, fun cols rows => length_refBody_char⟩
  case clear => simp [refBody, clearPairs_eq]
  case pixel =>
    have hpanel : inPanel x0 y0 = true := (inPanel_iff x0 y0).2 (by omega)
    simp [refBody, hpanel]
  case line =>
    have hpanel : endsInPanel x0 y0 x1 y1 = true := (endsInPanel_iff x0 y0 x1 y1).2 ⟨hx0, hy0, hx1, hy1⟩
    simp [refBody, hpanel]
  case rectf =>
    have hpanel : endsInPanel x0 y0 x1 y1 = true := (endsInPanel_iff x0 y0 x1 y1).2 ⟨hx0, hy0, hx1, hy1⟩
    simp [refBody, hpanel, fillPairs_eq, boxArea_boundingBox]
  case rect =>
    have hpanel : endsInPanel x0 y0 x1 y1 = true := (endsInPanel_iff x0 y0 x1 y1).2 ⟨hx0, hy0, hx1, hy1⟩
    simp only [refBody, hpanel, if_true, length_refEmit, length_pixelsFrames, length_rectPoints, length_refDone]
    omega
  case circle =>
    have hpanel : circleInPanel x0 y0 r = true := (circleInPanel_iff x0 y0 r).2 ⟨hx, hy, hx', hy'⟩
    obtain ⟨n, hn, hlen, hrounds⟩ := length_circlePoints x0 y0 r
    refine ⟨n, hn, ?_, hrounds⟩
    simp [refBody, hpanel, hlen]

/-! ### A packed pair under the reference controller (R92, R138, R145) -/

theorem ctrlFrame_dataFrame (opc : BitVec 24) (k : Controller) (b : Byte) :
    ctrlFrame opc k (dataFrame b) = ctrlData b k := by
  have htag : (dataFrame b).getLsbD 8 = true := by
    rw [dataFrame, BitVec.getLsbD_append]
    simp
  have hpayload : (dataFrame b).extractLsb' 0 8 = b := BitVec.extractLsb'_append_eq_right
  rw [ctrlFrame, if_pos htag, hpayload]

theorem ctrlFrame_dataFrame_of_write {k : Controller} (hmode : k.mode = .write) (opc : BitVec 24) (b : Byte) :
    ctrlFrame opc k (dataFrame b) = ctrlPixelByte b k := by
  rw [ctrlFrame_dataFrame, ctrlData, hmode]

/-- k with this much of a pixel received, at this byte phase (R90). -/
def withAssembly (k : Controller) (partialPixel : Colour) (phase : Nat) : Controller :=
  { k with partialPixel := partialPixel, phase := phase }

theorem ctrlAdvance_withAssembly (k : Controller) (pp : Colour) (phase : Nat) :
    ctrlAdvance (withAssembly k pp phase) = withAssembly (ctrlAdvance k) pp phase := by
  simp only [ctrlAdvance, apply_ite (withAssembly · pp phase)]
  rfl

/-- Where a pixel goes does not depend on the assembly of the next one (R92, R93). -/
theorem putPixel_withAssembly (v : Colour) (k : Controller) (pp : Colour) (phase : Nat) :
    putPixel v (withAssembly k pp phase) = withAssembly (putPixel v k) pp phase := by
  have hok : ctrlWindowOk (withAssembly k pp phase) = ctrlWindowOk k := rfl
  simp only [putPixel, hok]
  split <;> exact ctrlAdvance_withAssembly { k with received := k.received + 1, pixels := _ } pp phase

theorem ctrlAdvance_mode (k : Controller) : (ctrlAdvance k).mode = k.mode := by
  simp only [ctrlAdvance]
  split
  · split <;> rfl
  · rfl

theorem putPixel_mode (v : Colour) (k : Controller) : (putPixel v k).mode = k.mode := by
  simp only [putPixel]
  split <;> exact ctrlAdvance_mode _

/-! #### The three bytes of a pair -/

section

variable {k : Controller} (hmode : k.mode = .write) (opc : BitVec 24)

include hmode

theorem ctrlFrame_first_byte (hphase : k.phase = 0) (b : Byte) :
    ctrlFrame opc k (dataFrame b) = withAssembly k (b ++ 0#4) 1 := by
  rw [ctrlFrame_dataFrame_of_write hmode, ctrlPixelByte, hphase]
  rfl

/-- The second byte ends the first colour with its high half and begins the next with its low half. -/
theorem ctrlFrame_second_byte (hi : BitVec 8) (lo next : BitVec 4) :
    ctrlFrame opc (withAssembly k (hi ++ 0#4) 1) (dataFrame (lo ++ next)) =
      withAssembly (putPixel (hi ++ lo) k) (next ++ 0#8) 2 := by
  have hwrite : (withAssembly k (hi ++ 0#4) 1).mode = .write := hmode
  have hbyte : ctrlPixelByte (lo ++ next) (withAssembly k (hi ++ 0#4) 1) =
      withAssembly (putPixel ((hi ++ 0#4) ||| (0#8 ++ (lo ++ next).extractLsb' 4 4)) (withAssembly k (hi ++ 0#4) 1))
        ((lo ++ next).extractLsb' 0 4 ++ 0#8) 2 := rfl
  have hlo : (lo ++ next).extractLsb' 4 4 = lo := BitVec.extractLsb'_append_eq_left
  have hnext : (lo ++ next).extractLsb' 0 4 = next := BitVec.extractLsb'_append_eq_right
  rw [ctrlFrame_dataFrame_of_write hwrite, hbyte, hlo, hnext, putPixel_withAssembly, BitVec.or_append, BitVec.or_zero,
    BitVec.zero_or]
  rfl

theorem ctrlFrame_third_byte (hi : BitVec 4) (lo : BitVec 8) :
    ctrlFrame opc (withAssembly k (hi ++ 0#8) 2) (dataFrame lo) = withAssembly (putPixel (hi ++ lo) k) (hi ++ 0#8) 0 := by
  have hwrite : (withAssembly k (hi ++ 0#8) 2).mode = .write := hmode
  have hbyte : ctrlPixelByte lo (withAssembly k (hi ++ 0#8) 2) =
      { putPixel ((hi ++ 0#8) ||| (0#4 ++ lo)) (withAssembly k (hi ++ 0#8) 2) with phase := 0 } := rfl
  rw [ctrlFrame_dataFrame_of_write hwrite, hbyte, putPixel_withAssembly, BitVec.or_append, BitVec.or_zero, BitVec.zero_or]
  rfl

end

theorem colour_of_high_byte (c : Colour) : c.extractLsb' 4 8 ++ c.extractLsb' 0 4 = c :=
  (BitVec.extractLsb'_append_extractLsb'_eq_extractLsb' rfl).trans BitVec.extractLsb'_eq_self

theorem colour_of_low_byte (c : Colour) : c.extractLsb' 8 4 ++ c.extractLsb' 0 8 = c :=
  (BitVec.extractLsb'_append_extractLsb'_eq_extractLsb' rfl).trans BitVec.extractLsb'_eq_self

/-- Settles O58: the three bytes in turn, the first two completing c0 and the last two c1. -/
theorem packedPairsUnpack : Obligations.PackedPairsUnpack := by
  intro opc k c0 c1 hmode hphase
  have hmode' : (putPixel c0 k).mode = .write := (putPixel_mode c0 k).trans hmode
  simp only [ctrlFrames, pairFrames, List.foldl_cons, List.foldl_nil]
  rw [ctrlFrame_first_byte hmode opc hphase, ctrlFrame_second_byte hmode, colour_of_high_byte, ctrlFrame_third_byte hmode',
    colour_of_low_byte]
  rfl

end Sys2Proof.Proofs
end


section
/-! The raster commands launched in range (41_raster.md R150 to R165): each runs to its end and has drawn exactly the frames
of its pseudocode. -/

namespace Sys2Proof.Proofs

open Sys2Proof.Machine Sys2Proof.Safety

/-! ### A command whose pseudocode only emits -/

/-- A command whose pseudocode emits `fs` and completes is accepted, and one step for each frame and one to complete leave
`fs` drawn (R14, R108). -/
theorem command_draws {i : Instr} {c : Ctl} {s : State} {fs : List Frame} (hc : bodyOf i = some c)
    (hbody : refBody i s = refEmit fs refDone) (hb : gfxBusy s = false) (hidle : LinkIdle s) :
    exec i s = .next (launched c s) ∧ rasterRun (fs.length + 1) (launched c s) = .next (drawn fs s) := by
  obtain ⟨hexec, hrun⟩ := sequencerRefinesThePseudocode i c s hc hb
  rw [hbody] at hrun
  have heffect : bodyEffect (refEmit fs refDone) s = drawn fs s := by simp [bodyEffect, drawn, refEmit, refDone, errorAfter]
  have hsteps : (refEmit fs refDone).frames.length + (refEmit fs refDone).reads.length + 1 = fs.length + 1 := by
    simp [refEmit, refDone]
  refine ⟨hexec, ?_⟩
  rw [← heffect, ← hsteps]
  exact hrun hidle (.inl rfl)

theorem pairsFrames_eq_flatten (c : Colour) (n : Nat) : pairsFrames c n = (List.replicate n (pairFrames c c)).flatten := by
  induction n with
  | zero => rfl
  | succ n ih => rw [pairsFrames, ih, List.replicate_succ, List.flatten_cons]

/-- Settles O12: ten frames and the completion step. -/
theorem pixelEmitsTenFrames : Obligations.PixelEmitsTenFrames := by
  intro s x y c hb hidle hx hy
  have hpanel : inPanel x y = true := (inPanel_iff x y).2 (by omega)
  exact command_draws (i := .pixel x y c) rfl (if_pos hpanel) hb hidle

/-- Settles O13: ten frames a point of the line. -/
theorem lineDrawsItsPoints : Obligations.LineDrawsItsPoints := by
  intro s x0 y0 x1 y1 c hb hidle hx0 hy0 hx1 hy1
  have hpanel : endsInPanel x0 y0 x1 y1 = true := (endsInPanel_iff x0 y0 x1 y1).2 ⟨hx0, hy0, hx1, hy1⟩
  rw [← length_pixelsFrames s.gfxOpc (linePoints x0 y0 x1 y1) c]
  exact command_draws (i := .line x0 y0 x1 y1 c) rfl (if_pos hpanel) hb hidle

/-- Settles O14: the points of the four segments, one after another. -/
theorem rectDrawsFourSegments : Obligations.RectDrawsFourSegments := by
  intro s x0 y0 x1 y1 c hb hidle hx0 hy0 hx1 hy1
  have hpanel : endsInPanel x0 y0 x1 y1 = true := (endsInPanel_iff x0 y0 x1 y1).2 ⟨hx0, hy0, hx1, hy1⟩
  obtain ⟨hexec, hrun⟩ := command_draws (i := .rect x0 y0 x1 y1 c) rfl (if_pos hpanel) hb hidle
  exact ⟨hexec, _, hrun⟩

/-- What RECTF draws, its bounding box in natural numbers (R155 to R157). -/
theorem refBody_rectf {x0 y0 x1 y1 : Nat} (hx0 : x0 ≤ 131) (hy0 : y0 ≤ 131) (hx1 : x1 ≤ 131) (hy1 : y1 ≤ 131) (c : Colour)
    (s : State) : refBody (.rectf x0 y0 x1 y1 c) s =
      refEmit
        (windowFrames s.gfxOpc (min x0 x1 : Nat) (max x0 x1 : Nat) (min y0 y1 : Nat) (max y0 y1 : Nat) ++
          pairsFrames c (((max x0 x1 - min x0 x1 + 1) * (max y0 y1 - min y0 y1 + 1) + 1) / 2 + 130)) refDone := by
  have hpanel : endsInPanel x0 y0 x1 y1 = true := (endsInPanel_iff x0 y0 x1 y1).2 ⟨hx0, hy0, hx1, hy1⟩
  simp only [refBody, hpanel, if_true, fillPairs_eq, boxArea_boundingBox, Nat.cast_min, Nat.cast_max]
  rfl

/-- Settles O15: the window over the box, then its pairs. -/
theorem rectfStreamsItsBox : Obligations.RectfStreamsItsBox := by
  intro s x0 y0 x1 y1 c hb hidle hx0 hy0 hx1 hy1
  obtain ⟨hexec, hrun⟩ := command_draws rfl (refBody_rectf hx0 hy0 hx1 hy1 c s) hb hidle
  rw [pairsFrames_eq_flatten] at hrun
  exact ⟨hexec, _, hrun⟩

/-- Settles O16: ten frames a point of the circle. -/
theorem circleDrawsItsPoints : Obligations.CircleDrawsItsPoints := by
  intro s x0 y0 r c hb hidle hx hy hx' hy'
  have hpanel : circleInPanel x0 y0 r = true := (circleInPanel_iff x0 y0 r).2 ⟨hx, hy, hx', hy'⟩
  rw [← length_pixelsFrames s.gfxOpc (circlePoints x0 y0 r) c]
  exact command_draws (i := .circle x0 y0 r c) rfl (if_pos hpanel) hb hidle

/-- Settles O17: the full panel's window, then 8712 white pairs; 26143 frames and the completion step. -/
theorem clearStreamsWhitePairs : Obligations.ClearStreamsWhitePairs := by
  intro s hb hidle
  have hbody : refBody .clear s = refEmit
      (windowFrames s.gfxOpc 0 131 0 131 ++ (List.replicate 8712 (pairFrames 0xFFF 0xFFF)).flatten) refDone := by
    rw [← pairsFrames_eq_flatten, ← clearPairs_eq]
    rfl
  have hlen : (windowFrames s.gfxOpc 0 131 0 131 ++
      (List.replicate 8712 (pairFrames 0xFFF 0xFFF)).flatten).length = 26143 := by
    rw [← pairsFrames_eq_flatten, List.length_append, length_windowFrames, length_pairsFrames]
  have hdraws := command_draws rfl hbody hb hidle
  rwa [hlen] at hdraws

end Sys2Proof.Proofs
end


section
/-! The points of LINE and RECT (41_raster.md R152 to R159): the closed form of the line's recurrence, its symmetries, and
the boundary that four lines make. -/

namespace Sys2Proof.Proofs

open Sys2Proof.Machine

/-! ### How far the other axis has moved (R152) -/

/-- After k rounds, how often the other axis has stepped: D is the distance on the driving axis, d the one on the other. -/
def minorSteps (D d : Int) (k : Nat) : Int := (k * d + D - 1 - D / 2) / D

/-- The number of steps is the one that holds the error term of R152 within 0 and D. -/
theorem minorSteps_eq_iff {D : Int} (hD : 0 < D) (d : Int) (k : Nat) (m : Int) :
    minorSteps D d k = m ↔ 0 ≤ D / 2 - k * d + m * D ∧ D / 2 - k * d + m * D < D := by
  rw [minorSteps, Int.ediv_eq_iff_of_pos hD]
  constructor
  · rintro ⟨hlow, hhigh⟩
    constructor <;> linarith
  · rintro ⟨hlow, hhigh⟩
    constructor <;> linarith

/-- The other axis never steps on a line of one height. -/
theorem minorSteps_of_level {D : Int} (hD : 0 ≤ D) (k : Nat) : minorSteps D 0 k = 0 := by
  rcases hD.eq_or_lt with rfl | hpos
  · exact Int.ediv_zero _
  · rw [minorSteps_eq_iff hpos]
    omega

section

variable {D d : Int} (hd : 0 ≤ d) (hD : d ≤ D)

include hd hD

/-- A round of the error term: it steps the other axis exactly where the term falls below zero (R152). -/
theorem minorSteps_succ (k : Nat) :
    minorSteps D d (k + 1) =
      if D / 2 - k * d + minorSteps D d k * D - d < 0 then minorSteps D d k + 1 else minorSteps D d k := by
  rcases (hd.trans hD).eq_or_lt with rfl | hpos
  · obtain rfl : d = 0 := le_antisymm hD hd
    simp [minorSteps_of_level]
  · obtain ⟨hlow, hhigh⟩ := (minorSteps_eq_iff hpos d k _).1 rfl
    rw [minorSteps_eq_iff hpos]
    push_cast
    split
    · constructor <;> linarith
    · constructor <;> linarith

theorem minorSteps_zero : minorSteps D d 0 = 0 := by
  rcases (hd.trans hD).eq_or_lt with rfl | hpos
  · obtain rfl : d = 0 := le_antisymm hD hd
    exact minorSteps_of_level le_rfl 0
  · rw [minorSteps_eq_iff hpos]
    omega

theorem minorSteps_last {k : Nat} (hk : (k : Int) = D) : minorSteps D d k = d := by
  rcases (hd.trans hD).eq_or_lt with rfl | hpos
  · obtain rfl : d = 0 := le_antisymm hD hd
    exact minorSteps_of_level le_rfl k
  · have hstart : D / 2 - D * d + d * D = D / 2 := by ring
    rw [minorSteps_eq_iff hpos, hk, hstart]
    omega

theorem minorSteps_le_succ (k : Nat) :
    minorSteps D d k ≤ minorSteps D d (k + 1) ∧ minorSteps D d (k + 1) ≤ minorSteps D d k + 1 := by
  rw [minorSteps_succ hd hD]
  split <;> omega

theorem minorSteps_mono : Monotone (minorSteps D d) := monotone_nat_of_le_succ fun k => (minorSteps_le_succ hd hD k).1

theorem minorSteps_nonneg (k : Nat) : 0 ≤ minorSteps D d k :=
  (minorSteps_zero hd hD).symm.le.trans (minorSteps_mono hd hD k.zero_le)

theorem minorSteps_le {k : Nat} (hk : (k : Int) ≤ D) : minorSteps D d k ≤ d := by
  have hlast := minorSteps_last hd hD (k := D.toNat) (by omega)
  exact (minorSteps_mono hd hD (by omega)).trans hlast.le

end

/-! ### The recurrence in closed form -/

/-- The line loop's variables after k rounds, in closed form. -/
def lineAfter (v : LineVars) (k : Nat) : LineVars :=
  { v with
    drive := v.drive + k
    other := v.other + v.step * minorSteps v.dDrive v.dOther k
    err := v.dDrive / 2 - k * v.dOther + minorSteps v.dDrive v.dOther k * v.dDrive
    left := v.left - k }

theorem lineNext_of_neg {v : LineVars} (h : v.err - v.dOther < 0) : lineNext v =
    { v with drive := v.drive + 1, other := v.other + v.step, err := v.err - v.dOther + v.dDrive, left := v.left - 1 } :=
  if_pos h

theorem lineNext_of_nonneg {v : LineVars} (h : ¬ v.err - v.dOther < 0) : lineNext v =
    { v with drive := v.drive + 1, err := v.err - v.dOther, left := v.left - 1 } :=
  if_neg h

theorem lineNext_lineAfter {v : LineVars} (hd : 0 ≤ v.dOther) (hD : v.dOther ≤ v.dDrive) (k : Nat) :
    lineNext (lineAfter v k) = lineAfter v (k + 1) := by
  by_cases hstep : (lineAfter v k).err - v.dOther < 0
  · have hsteps := (minorSteps_succ hd hD k).trans (if_pos hstep)
    rw [lineNext_of_neg hstep, lineAfter, lineAfter, hsteps]
    congr 1 <;> push_cast <;> ring
  · have hsteps := (minorSteps_succ hd hD k).trans (if_neg hstep)
    rw [lineNext_of_nonneg hstep, lineAfter, lineAfter, hsteps]
    congr 1 <;> push_cast <;> ring

theorem lineNext_iterate {v : LineVars} (herr : v.err = v.dDrive / 2) (hd : 0 ≤ v.dOther) (hD : v.dOther ≤ v.dDrive)
    (k : Nat) : lineNext^[k] v = lineAfter v k := by
  induction k with
  | zero => simp [lineAfter, minorSteps_zero hd hD, ← herr]
  | succ k ih => rw [Function.iterate_succ_apply', ih, lineNext_lineAfter hd hD]

theorem lineRun_eq_map (n : Nat) (v : LineVars) :
    lineRun n v = (List.range n).map fun k => linePoint (lineNext^[k] v) := by
  induction n generalizing v with
  | zero => rfl
  | succ n ih =>
    rw [lineRun, ih, List.range_succ_eq_map, List.map_cons, List.map_map]
    rfl

/-- The direction of the other axis's steps (R152). -/
def towards (a b : Int) : Int := if a ≤ b then 1 else -1

/-- The k-th point of a line from (x0, y0) whose driving axis is x. -/
def xDrivenPoint (x0 y0 x1 y1 : Int) (k : Nat) : Point :=
  (x0 + k, y0 + towards y0 y1 * minorSteps |x1 - x0| |y1 - y0| k)

/-- A line that x drives, its endpoints in normalised order. -/
theorem linePoints_of_xDriven {x0 y0 x1 y1 : Int} (hdrive : |y1 - y0| ≤ |x1 - x0|) (hx : x0 ≤ x1) :
    linePoints x0 y0 x1 y1 = (List.range (|x1 - x0|.toNat + 1)).map (xDrivenPoint x0 y0 x1 y1) := by
  have hinit : lineInit { x0 := x0, y0 := y0, x1 := x1, y1 := y1 } =
      { yDrives := false, drive := x0, other := y0, err := |x1 - x0| / 2, step := towards y0 y1,
        dDrive := |x1 - x0|, dOther := |y1 - y0|, left := |x1 - x0|.toNat + 1 } := by
    simp only [lineInit, if_pos hdrive, if_neg hx.not_gt]
    rfl
  simp only [linePoints, hinit, lineRun_eq_map]
  congr 1
  funext k
  rw [lineNext_iterate rfl (abs_nonneg _) hdrive]
  rfl

/-! ### The symmetries of LinePoints (R154) -/

/-- The loop starts from the normalised endpoints, whichever is given first. -/
theorem lineInit_reverse (x0 y0 x1 y1 : Int) :
    lineInit { x0 := x1, y0 := y1, x1 := x0, y1 := y0 } = lineInit { x0 := x0, y0 := y0, x1 := x1, y1 := y1 } := by
  simp only [lineInit, abs_sub_comm x0 x1, abs_sub_comm y0 y1]
  split
  · rename_i hdrive
    rcases lt_trichotomy x0 x1 with hx | rfl | hx
    · rw [if_pos hx, if_neg hx.not_gt]
    · obtain rfl : y1 = y0 := by simpa [sub_eq_zero] using hdrive
      rfl
    · rw [if_neg hx.not_gt, if_pos hx]
  · rename_i hdrive
    rcases lt_trichotomy y0 y1 with hy | rfl | hy
    · rw [if_pos hy, if_neg hy.not_gt]
    · exact absurd (by simp) hdrive
    · rw [if_neg hy.not_gt, if_pos hy]

theorem linePoints_reverse (x0 y0 x1 y1 : Int) : linePoints x1 y1 x0 y0 = linePoints x0 y0 x1 y1 := by
  simp only [linePoints, lineInit_reverse x0 y0 x1 y1]

/-- v with y, or x, as its driving axis. -/
def onAxis (yDrives : Bool) (v : LineVars) : LineVars := { v with yDrives := yDrives }

theorem lineNext_onAxis (b : Bool) (v : LineVars) : lineNext (onAxis b v) = onAxis b (lineNext v) := by
  by_cases hstep : v.err - v.dOther < 0
  · rw [lineNext_of_neg hstep, lineNext_of_neg (v := onAxis b v) hstep]
    rfl
  · rw [lineNext_of_nonneg hstep, lineNext_of_nonneg (v := onAxis b v) hstep]
    rfl

theorem lineRun_onAxis_true (n : Nat) (v : LineVars) :
    lineRun n (onAxis true v) = (lineRun n (onAxis false v)).map Prod.swap := by
  induction n generalizing v with
  | zero => rfl
  | succ n ih =>
    rw [lineRun, lineRun, lineNext_onAxis, lineNext_onAxis, ih]
    rfl

/-- On a line that y drives the two axes have changed places. -/
theorem linePoints_of_yDriven {x0 y0 x1 y1 : Int} (hdrive : |x1 - x0| < |y1 - y0|) :
    linePoints x0 y0 x1 y1 = (linePoints y0 x0 y1 x1).map Prod.swap := by
  have hx : lineInit { x0 := y0, y0 := x0, x1 := y1, y1 := x1 } =
      onAxis false (lineInit { x0 := y0, y0 := x0, x1 := y1, y1 := x1 }) := by
    simp only [lineInit, if_pos hdrive.le]
    rfl
  have hy : lineInit { x0 := x0, y0 := y0, x1 := x1, y1 := y1 } =
      onAxis true (lineInit { x0 := y0, y0 := x0, x1 := y1, y1 := x1 }) := by
    simp only [lineInit, if_neg hdrive.not_ge, if_pos hdrive.le]
    rfl
  simp only [linePoints]
  rw [hy, lineRun_onAxis_true, ← hx]
  rfl

/-! ### The properties of R154 -/

theorem towards_mul_abs (a b : Int) : towards a b * |b - a| = b - a := by
  rw [towards]
  split
  · rw [abs_of_nonneg (by omega), one_mul]
  · rw [abs_of_neg (by omega)]
    omega

theorem linePoints_ends_of_xDriven {x0 y0 x1 y1 : Int} (hdrive : |y1 - y0| ≤ |x1 - x0|) (hx : x0 ≤ x1) :
    (linePoints x0 y0 x1 y1).head? = some (x0, y0) ∧ (linePoints x0 y0 x1 y1).getLast? = some (x1, y1) := by
  have hD : ((|x1 - x0|).toNat : Int) = |x1 - x0| := Int.toNat_of_nonneg (abs_nonneg _)
  have hfirst : xDrivenPoint x0 y0 x1 y1 0 = (x0, y0) := by
    simp [xDrivenPoint, minorSteps_zero (abs_nonneg _) hdrive]
  have hlast : xDrivenPoint x0 y0 x1 y1 |x1 - x0|.toNat = (x1, y1) := by
    rw [xDrivenPoint, minorSteps_last (abs_nonneg _) hdrive hD, hD, towards_mul_abs, abs_of_nonneg (sub_nonneg.2 hx),
      add_sub_cancel, add_sub_cancel]
  rw [linePoints_of_xDriven hdrive hx]
  constructor
  · rw [List.range_succ_eq_map, List.map_cons, List.head?_cons, hfirst]
  · rw [List.range_succ, List.map_append, List.map_singleton, List.getLast?_concat, hlast]

theorem linePoints_getElem?_of_xDriven {x0 y0 x1 y1 : Int} (hdrive : |y1 - y0| ≤ |x1 - x0|) (hx : x0 ≤ x1) {k : Nat}
    {p : Point} : (linePoints x0 y0 x1 y1)[k]? = some p ↔ k ≤ x1 - x0 ∧ p = xDrivenPoint x0 y0 x1 y1 k := by
  have hk : k < |x1 - x0|.toNat + 1 ↔ (k : Int) ≤ x1 - x0 := by
    rw [abs_of_nonneg (sub_nonneg.2 hx)]
    omega
  rw [linePoints_of_xDriven hdrive hx, List.getElem?_eq_some_iff, ← hk]
  simp only [List.length_map, List.length_range, List.getElem_map, List.getElem_range, exists_prop, eq_comm]

/-- On a line that x drives, consecutive points are one apart in x and at most one apart in y. -/
theorem linePoints_consecutive_of_xDriven {x0 y0 x1 y1 : Int} (hdrive : |y1 - y0| ≤ |x1 - x0|) {k : Nat} {p q : Point}
    (hp : (linePoints x0 y0 x1 y1)[k]? = some p) (hq : (linePoints x0 y0 x1 y1)[k + 1]? = some q) :
    |q.1 - p.1| = 1 ∧ |q.2 - p.2| ≤ 1 := by
  wlog hx : x0 ≤ x1 generalizing x0 y0 x1 y1
  · rw [← linePoints_reverse] at hp hq
    exact this (by rwa [abs_sub_comm y0, abs_sub_comm x0]) hp hq (by omega)
  obtain ⟨-, rfl⟩ := (linePoints_getElem?_of_xDriven hdrive hx).1 hp
  obtain ⟨-, rfl⟩ := (linePoints_getElem?_of_xDriven hdrive hx).1 hq
  obtain ⟨hlow, hhigh⟩ := minorSteps_le_succ (abs_nonneg _) hdrive k
  refine ⟨by simp [xDrivenPoint], ?_⟩
  simp only [xDrivenPoint, towards, abs_le]
  split <;> omega

/-- Of a line that x drives, its endpoints in normalised order, the k-th point. -/
theorem linePoints_closedForm_of_xDriven {x0 y0 x1 y1 : Int} (hdrive : |y1 - y0| ≤ |x1 - x0|) (hx : x0 ≤ x1) {k : Nat}
    {p : Point} (hp : (linePoints x0 y0 x1 y1)[k]? = some p) :
    p.1 = x0 + k ∧ |p.2 - y0| = minorSteps |x1 - x0| |y1 - y0| k ∧ (if y0 ≤ y1 then y0 ≤ p.2 else p.2 ≤ y0) := by
  obtain ⟨-, rfl⟩ := (linePoints_getElem?_of_xDriven hdrive hx).1 hp
  have hm := minorSteps_nonneg (abs_nonneg _) hdrive k
  refine ⟨rfl, ?_⟩
  simp only [xDrivenPoint, towards, add_sub_cancel_left]
  split
  · rw [one_mul, abs_of_nonneg hm]
    omega
  · rw [neg_one_mul, abs_neg, abs_of_nonneg hm]
    omega

theorem linePoints_in_box_of_xDriven {x0 y0 x1 y1 : Int} (hdrive : |y1 - y0| ≤ |x1 - x0|) {p : Point}
    (hp : p ∈ linePoints x0 y0 x1 y1) :
    min x0 x1 ≤ p.1 ∧ p.1 ≤ max x0 x1 ∧ min y0 y1 ≤ p.2 ∧ p.2 ≤ max y0 y1 := by
  wlog hx : x0 ≤ x1 generalizing x0 y0 x1 y1
  · rw [← linePoints_reverse] at hp
    rw [min_comm x0, max_comm x0, min_comm y0, max_comm y0]
    exact this (by rwa [abs_sub_comm y0, abs_sub_comm x0]) hp (by omega)
  obtain ⟨k, hk⟩ := List.mem_iff_getElem?.1 hp
  obtain ⟨hle, -⟩ := (linePoints_getElem?_of_xDriven hdrive hx).1 hk
  obtain ⟨hp1, hp2, hside⟩ := linePoints_closedForm_of_xDriven hdrive hx hk
  have hm : |p.2 - y0| ≤ |y1 - y0| := hp2.trans_le (minorSteps_le (abs_nonneg _) hdrive (hle.trans (le_abs_self _)))
  split at hside
  · rw [abs_of_nonneg (by omega), abs_of_nonneg (by omega)] at hm
    omega
  · rw [abs_of_nonpos (by omega), abs_of_neg (by omega)] at hm
    omega

theorem linePoints_in_box (x0 y0 x1 y1 : Int) {p : Point} (hp : p ∈ linePoints x0 y0 x1 y1) :
    min x0 x1 ≤ p.1 ∧ p.1 ≤ max x0 x1 ∧ min y0 y1 ≤ p.2 ∧ p.2 ≤ max y0 y1 := by
  rcases le_or_gt |y1 - y0| |x1 - x0| with hdrive | hdrive
  · exact linePoints_in_box_of_xDriven hdrive hp
  · rw [linePoints_of_yDriven hdrive] at hp
    obtain ⟨q, hq, rfl⟩ := List.mem_map.1 hp
    obtain ⟨hy, hy', hx, hx'⟩ := linePoints_in_box_of_xDriven hdrive.le hq
    exact ⟨hx, hx', hy, hy'⟩

/-- The ends of a line in normalised order, whichever axis drives. -/
theorem linePoints_ends {x0 y0 x1 y1 : Int}
    (h : |y1 - y0| ≤ |x1 - x0| ∧ x0 ≤ x1 ∨ |x1 - x0| < |y1 - y0| ∧ y0 ≤ y1) :
    (linePoints x0 y0 x1 y1).head? = some (x0, y0) ∧ (linePoints x0 y0 x1 y1).getLast? = some (x1, y1) := by
  rcases h with ⟨hdrive, hx⟩ | ⟨hdrive, hy⟩
  · exact linePoints_ends_of_xDriven hdrive hx
  · obtain ⟨hfirst, hlast⟩ := linePoints_ends_of_xDriven hdrive.le hy
    rw [linePoints_of_yDriven hdrive, List.head?_map, List.getLast?_map, hfirst, hlast]
    exact ⟨rfl, rfl⟩

theorem linePoints_getElem?_of_yDriven {x0 y0 x1 y1 : Int} (hdrive : |x1 - x0| < |y1 - y0|) {k : Nat} {p : Point}
    (hp : (linePoints x0 y0 x1 y1)[k]? = some p) : (linePoints y0 x0 y1 x1)[k]? = some p.swap := by
  rw [linePoints_of_yDriven hdrive, List.getElem?_map, Option.map_eq_some_iff] at hp
  obtain ⟨q, hq, rfl⟩ := hp
  exact hq

/-- Settles O53: everything is proved of a line that x drives, in closed form; the reversed line is the same list, and one
that y drives is the transposed list. -/
theorem linePointsAreBresenham : Obligations.LinePointsAreBresenham := by
  intro x0 y0 x1 y1
  refine ⟨?length, linePoints_ends, fun h => ?reversedEnds, fun k p q hp hq => ⟨fun hdrive => ?_, fun hdrive => ?_⟩,
    fun p => linePoints_in_box x0 y0 x1 y1, linePoints_reverse x0 y0 x1 y1,
    fun k p hp => ⟨fun hdrive hx => ?_, fun hdrive hy => ?_⟩⟩
  case length =>
    rw [length_linePoints, Int.abs_eq_natAbs, Int.abs_eq_natAbs]
    omega
  case reversedEnds =>
    rw [← linePoints_reverse]
    refine linePoints_ends ?_
    rw [abs_sub_comm y0, abs_sub_comm x0]
    exact h.imp (fun ⟨hdrive, hx⟩ => ⟨hdrive, hx.le⟩) (fun ⟨hdrive, hy⟩ => ⟨hdrive, hy.le⟩)
  · exact linePoints_consecutive_of_xDriven hdrive hp hq
  · exact linePoints_consecutive_of_xDriven hdrive.le (linePoints_getElem?_of_yDriven hdrive hp)
      (linePoints_getElem?_of_yDriven hdrive hq)
  · exact linePoints_closedForm_of_xDriven hdrive hx hp
  · exact linePoints_closedForm_of_xDriven hdrive.le hy (linePoints_getElem?_of_yDriven hdrive hp)

/-! ### RECT's boundary (R158, R159) -/

theorem mem_linePoints_horizontal (x0 x1 y : Int) (p : Point) :
    p ∈ linePoints x0 y x1 y ↔ min x0 x1 ≤ p.1 ∧ p.1 ≤ max x0 x1 ∧ p.2 = y := by
  refine ⟨fun hp => ?_, fun ⟨hlow, hhigh, hy⟩ => ?_⟩
  · have hbox := linePoints_in_box x0 y x1 y hp
    omega
  · wlog hx : x0 ≤ x1 generalizing x0 x1
    · rw [← linePoints_reverse]
      exact this x1 x0 (by omega) (by omega) (by omega) (by omega)
    refine List.mem_iff_getElem?.2 ⟨(p.1 - x0).toNat, (linePoints_getElem?_of_xDriven (by simp) hx).2 ⟨by omega, ?_⟩⟩
    rw [xDrivenPoint, sub_self, abs_zero, minorSteps_of_level (abs_nonneg _), mul_zero, add_zero]
    exact Prod.ext (by omega) hy

theorem mem_linePoints_vertical (x y0 y1 : Int) (p : Point) :
    p ∈ linePoints x y0 x y1 ↔ min y0 y1 ≤ p.2 ∧ p.2 ≤ max y0 y1 ∧ p.1 = x := by
  rcases eq_or_ne y0 y1 with rfl | hne
  · rw [mem_linePoints_horizontal]
    omega
  · have hdrive : |x - x| < |y1 - y0| := by rw [sub_self, abs_zero, abs_pos]; omega
    rw [linePoints_of_yDriven hdrive, List.mem_map]
    simp only [mem_linePoints_horizontal]
    constructor
    · rintro ⟨q, hq, rfl⟩
      exact hq
    · exact fun hp => ⟨p.swap, hp, Prod.swap_swap p⟩

/-- Settles O54: two horizontal and two vertical lines. -/
theorem rectPointsAreTheBoundary : Obligations.RectPointsAreTheBoundary := by
  intro x0 y0 x1 y1 p
  simp only [rectPoints, List.mem_append, mem_linePoints_horizontal, mem_linePoints_vertical]
  omega

end Sys2Proof.Proofs
end


section
/-! The points of CIRCLE (41_raster.md R160 to R162): the midpoint recurrence, the rounds the loop makes, the bound on a
point's error, the 8-way symmetry, and how many points are distinct. -/

namespace Sys2Proof.Proofs

open Sys2Proof.Machine

/-! ### One round of the updates (R160) -/

@[simp] theorem circleNext_x0 (c : CircleVars) : (circleNext c).x0 = c.x0 := by
  simp only [circleNext]
  split <;> rfl

@[simp] theorem circleNext_y0 (c : CircleVars) : (circleNext c).y0 = c.y0 := by
  simp only [circleNext]
  split <;> rfl

theorem circleNext_ddFx (c : CircleVars) : (circleNext c).ddFx = c.ddFx + 2 := by
  simp only [circleNext]
  split <;> rfl

theorem circleNext_v (c : CircleVars) : (circleNext c).v = if 0 ≤ c.f then c.v - 1 else c.v := by
  simp only [circleNext]
  split <;> rfl

theorem circleNext_ddFy (c : CircleVars) : (circleNext c).ddFy = if 0 ≤ c.f then c.ddFy + 2 else c.ddFy := by
  simp only [circleNext]
  split <;> rfl

theorem circleNext_f (c : CircleVars) :
    (circleNext c).f = (if 0 ≤ c.f then c.f + (c.ddFy + 2) else c.f) + (c.ddFx + 2) := by
  simp only [circleNext]
  split <;> rfl

/-! ### The recurrence's invariants -/

section

variable (x0 y0 r : Int) (n : Nat)

@[simp] theorem circleVarsAt_x0 : (circleVarsAt x0 y0 r n).x0 = x0 := by
  induction n with
  | zero => rfl
  | succ n ih => rw [circleVarsAt, circleNext_x0, ih]

@[simp] theorem circleVarsAt_y0 : (circleVarsAt x0 y0 r n).y0 = y0 := by
  induction n with
  | zero => rfl
  | succ n ih => rw [circleVarsAt, circleNext_y0, ih]

@[simp] theorem circleVarsAt_u : (circleVarsAt x0 y0 r n).u = n := by
  induction n with
  | zero => rfl
  | succ n ih => rw [circleVarsAt, circleNext_u, ih, Nat.cast_succ]

theorem circleVarsAt_ddFx : (circleVarsAt x0 y0 r n).ddFx = 2 * n + 1 := by
  induction n with
  | zero => rfl
  | succ n ih =>
    rw [circleVarsAt, circleNext_ddFx, ih]
    push_cast
    ring

theorem circleVarsAt_ddFy : (circleVarsAt x0 y0 r n).ddFy = -2 * (circleVarsAt x0 y0 r n).v := by
  induction n with
  | zero => rfl
  | succ n ih =>
    rw [circleVarsAt, circleNext_ddFy, circleNext_v, ih]
    split <;> ring

/-- The decision variable is the midpoint's: (u + 1)^2 + (v - 1/2)^2 - r^2, less a quarter. -/
theorem circleVarsAt_f : (circleVarsAt x0 y0 r n).f =
    (n + 1) ^ 2 + (circleVarsAt x0 y0 r n).v ^ 2 - (circleVarsAt x0 y0 r n).v - r ^ 2 := by
  induction n with
  | zero =>
    simp only [circleVarsAt, circleInit]
    push_cast
    ring
  | succ n ih =>
    rw [circleVarsAt, circleNext_f, circleNext_v, circleVarsAt_ddFx, circleVarsAt_ddFy]
    split
    · rw [ih]
      push_cast
      ring
    · rw [ih]
      push_cast
      ring

theorem circleVarsAt_v_succ : (circleVarsAt x0 y0 r (n + 1)).v =
    if 0 ≤ (circleVarsAt x0 y0 r n).f then (circleVarsAt x0 y0 r n).v - 1 else (circleVarsAt x0 y0 r n).v :=
  circleNext_v _

theorem circleVarsAt_v_antitone : Antitone fun n => (circleVarsAt x0 y0 r n).v :=
  antitone_nat_of_succ_le fun _ => circleNext_v_le _

end

/-! ### The rounds of the loop -/

/-- The loop makes n rounds: u < v before each of them and no longer after them (R160). -/
def CircleRounds (x0 y0 : Int) (r n : Nat) : Prop :=
  n ≤ r ∧ (∀ j, j < n → (j : Int) < (circleVarsAt x0 y0 r j).v) ∧ (circleVarsAt x0 y0 r n).v ≤ n

theorem exists_circleRounds (x0 y0 : Int) (r : Nat) : ∃ n, CircleRounds x0 y0 r n := by
  obtain ⟨n, hn, -, hrounds, hend⟩ := length_circlePoints x0 y0 r
  simp only [circleVarsAt_u] at hrounds hend
  exact ⟨n, hn, hrounds, hend⟩

/-- The points of rounds k + 1 to k + n, when the loop goes on for n rounds from round k on. -/
theorem circleRun_circleVarsAt {x0 y0 r : Int} {m k n : Nat} (hn : n ≤ m)
    (hrounds : ∀ j, k ≤ j → j < k + n → (j : Int) < (circleVarsAt x0 y0 r j).v)
    (hend : (circleVarsAt x0 y0 r (k + n)).v ≤ (k + n : Nat)) :
    circleRun m (circleVarsAt x0 y0 r k) =
      (List.range n).flatMap fun j => circleOctants (circleVarsAt x0 y0 r (k + 1 + j)) := by
  induction n generalizing m k with
  | zero =>
    have hstop : ¬ (circleVarsAt x0 y0 r k).u < (circleVarsAt x0 y0 r k).v := by simpa using hend
    cases m with
    | zero => rfl
    | succ m => rw [circleRun, if_neg hstop]; rfl
  | succ n ih =>
    obtain ⟨m, rfl⟩ : ∃ l, m = l + 1 := ⟨m - 1, by omega⟩
    have hgo : (circleVarsAt x0 y0 r k).u < (circleVarsAt x0 y0 r k).v := by
      rw [circleVarsAt_u]
      exact hrounds k le_rfl (by omega)
    have hrest := ih (m := m) (k := k + 1) (by omega) (fun j hkj hj => hrounds j (by omega) (by omega))
      (by rwa [Nat.add_right_comm, Nat.add_assoc])
    rw [circleRun, if_pos hgo, List.range_succ_eq_map, List.flatMap_cons, List.flatMap_map]
    refine congrArg _ (hrest.trans ?_)
    simp only [Nat.succ_eq_add_one, Nat.add_assoc, Nat.add_comm 1]

/-- The extreme points, and the points of rounds 1 to n (R160). -/
def roundPoints (x0 y0 r : Int) (n : Nat) : List Point :=
  circleExtremes x0 y0 r ++ (List.range n).flatMap fun j => circleOctants (circleVarsAt x0 y0 r (j + 1))

theorem circlePoints_eq_roundPoints {x0 y0 : Int} {r n : Nat} (h : CircleRounds x0 y0 r n) :
    circlePoints x0 y0 r = roundPoints x0 y0 r n := by
  obtain ⟨hn, hrounds, hend⟩ := h
  have hrun := circleRun_circleVarsAt (k := 0) hn (fun j _ hj => hrounds j (by omega)) (by rwa [Nat.zero_add])
  simp only [Nat.zero_add, Nat.add_comm 1] at hrun
  exact congrArg _ hrun

/-! ### The points of a round -/

theorem mem_circleOctants (c : CircleVars) (p : Point) : p ∈ circleOctants c ↔
    (p.1 = c.x0 + c.u ∨ p.1 = c.x0 - c.u) ∧ (p.2 = c.y0 + c.v ∨ p.2 = c.y0 - c.v) ∨
      (p.1 = c.x0 + c.v ∨ p.1 = c.x0 - c.v) ∧ (p.2 = c.y0 + c.u ∨ p.2 = c.y0 - c.u) := by
  simp only [circleOctants, List.mem_cons, List.not_mem_nil, or_false, Prod.ext_iff]
  grind

/-- The extreme points are those of u = 0, v = r. -/
theorem mem_circleExtremes (x0 y0 r : Int) (p : Point) :
    p ∈ circleExtremes x0 y0 r ↔ p ∈ circleOctants (circleVarsAt x0 y0 r 0) := by
  simp only [mem_circleOctants, circleVarsAt, circleInit, circleExtremes, List.mem_cons, List.not_mem_nil, or_false,
    Prod.ext_iff]
  omega

theorem mem_roundPoints (x0 y0 r : Int) (n : Nat) (p : Point) :
    p ∈ roundPoints x0 y0 r n ↔ ∃ k ≤ n, p ∈ circleOctants (circleVarsAt x0 y0 r k) := by
  rw [roundPoints, List.mem_append, mem_circleExtremes, List.mem_flatMap]
  constructor
  · rintro (hp | ⟨j, hj, hp⟩)
    · exact ⟨0, n.zero_le, hp⟩
    · exact ⟨j + 1, List.mem_range.1 hj, hp⟩
  · rintro ⟨k, hk, hp⟩
    cases k with
    | zero => exact .inl hp
    | succ j => exact .inr ⟨j, List.mem_range.2 hk, hp⟩

theorem roundPoints_succ (x0 y0 r : Int) (n : Nat) :
    roundPoints x0 y0 r (n + 1) = roundPoints x0 y0 r n ++ circleOctants (circleVarsAt x0 y0 r (n + 1)) := by
  simp [roundPoints, List.range_succ]

theorem length_roundPoints (x0 y0 r : Int) (n : Nat) : (roundPoints x0 y0 r n).length = 4 + 8 * n := by
  induction n with
  | zero => rfl
  | succ n ih => rw [roundPoints_succ, List.length_append, ih, length_circleOctants, Nat.mul_succ, Nat.add_assoc]

theorem mem_circlePoints {x0 y0 : Int} {r n : Nat} (h : CircleRounds x0 y0 r n) (p : Point) :
    p ∈ circlePoints x0 y0 r ↔ ∃ k ≤ n, p ∈ circleOctants (circleVarsAt x0 y0 r k) := by
  rw [circlePoints_eq_roundPoints h, mem_roundPoints]

/-! ### The bound on the error -/

/-- A round keeps the error u^2 + v^2 - r^2 within the larger of u and v: the decision variable takes the better of the two
next points. -/
theorem circle_error_step {u v r : Int} (hu : 0 ≤ u) (huv : u < v) (hlow : -v ≤ u ^ 2 + v ^ 2 - r ^ 2)
    (hhigh : u ^ 2 + v ^ 2 - r ^ 2 < v) {w : Int}
    (hw : w = if 0 ≤ (u + 1) ^ 2 + v ^ 2 - v - r ^ 2 then v - 1 else v) :
    -max (u + 1) w ≤ (u + 1) ^ 2 + w ^ 2 - r ^ 2 ∧ (u + 1) ^ 2 + w ^ 2 - r ^ 2 < max (u + 1) w := by
  have hsquare : (u + 1) ^ 2 = u ^ 2 + 2 * u + 1 := by ring
  have hsquare' : (v - 1) ^ 2 = v ^ 2 - 2 * v + 1 := by ring
  split at hw
  · subst hw
    omega
  · subst hw
    omega

/-- As long as the loop goes on, the error of u and v is within the larger of the two. -/
theorem circleVarsAt_error {x0 y0 : Int} {r : Nat} (hr : 0 < r) {k : Nat}
    (hrounds : ∀ j, j < k → (j : Int) < (circleVarsAt x0 y0 r j).v) :
    -max (k : Int) (circleVarsAt x0 y0 r k).v ≤ k ^ 2 + (circleVarsAt x0 y0 r k).v ^ 2 - r ^ 2 ∧
      k ^ 2 + (circleVarsAt x0 y0 r k).v ^ 2 - (r : Int) ^ 2 < max (k : Int) (circleVarsAt x0 y0 r k).v := by
  induction k with
  | zero => simp [circleVarsAt, circleInit, hr]
  | succ k ih =>
    have huv := hrounds k (Nat.lt_succ_self k)
    obtain ⟨hlow, hhigh⟩ := ih fun j hj => hrounds j (by omega)
    rw [max_eq_right huv.le] at hlow hhigh
    have hnext := circleVarsAt_v_succ x0 y0 r k
    rw [circleVarsAt_f] at hnext
    exact circle_error_step k.cast_nonneg huv hlow hhigh hnext

/-- v is at most r, and it is not negative while the loop goes on. -/
theorem circleVarsAt_v_bounds {x0 y0 : Int} {r n : Nat} (h : CircleRounds x0 y0 r n) {k : Nat} (hk : k ≤ n) :
    0 ≤ (circleVarsAt x0 y0 r k).v ∧ (circleVarsAt x0 y0 r k).v ≤ r := by
  obtain ⟨-, hrounds, -⟩ := h
  refine ⟨?_, circleVarsAt_v_antitone x0 y0 r k.zero_le⟩
  cases k with
  | zero => exact r.cast_nonneg
  | succ k =>
    have huv := hrounds k hk
    rw [circleVarsAt_v_succ]
    split <;> omega

/-- A point of a circle: its distances from the centre on the two axes are u and v of a round, in some order. -/
theorem exists_round_of_mem {x0 y0 : Int} {r : Nat} {p : Point} (hp : p ∈ circlePoints x0 y0 r) :
    ∃ u v : Int, 0 ≤ u ∧ u ≤ r ∧ 0 ≤ v ∧ v ≤ r ∧ |u ^ 2 + v ^ 2 - r ^ 2| ≤ max u v ∧
      (|p.1 - x0| = u ∧ |p.2 - y0| = v ∨ |p.1 - x0| = v ∧ |p.2 - y0| = u) := by
  obtain ⟨n, h⟩ := exists_circleRounds x0 y0 r
  obtain ⟨k, hk, hp⟩ := (mem_circlePoints h p).1 hp
  obtain ⟨hv, hvr⟩ := circleVarsAt_v_bounds h hk
  obtain ⟨hn, hrounds, -⟩ := h
  refine ⟨k, _, k.cast_nonneg, by exact_mod_cast hk.trans hn, hv, hvr, ?_, ?_⟩
  · rcases r.eq_zero_or_pos with rfl | hr
    · obtain rfl : k = 0 := by omega
      simp [circleVarsAt, circleInit]
    · obtain ⟨hlow, hhigh⟩ := circleVarsAt_error hr fun j hj => hrounds j (hj.trans_le hk)
      exact abs_le.2 ⟨hlow, hhigh.le⟩
  · rw [mem_circleOctants, circleVarsAt_x0, circleVarsAt_y0, circleVarsAt_u] at hp
    rw [abs_eq hv, abs_eq hv, abs_eq k.cast_nonneg, abs_eq k.cast_nonneg]
    omega

/-! ### The 8-way symmetry (R160) -/

theorem circleOctants_symmetric {c : CircleVars} {p : Point} (hp : p ∈ circleOctants c) :
    (2 * c.x0 - p.1, p.2) ∈ circleOctants c ∧ (p.1, 2 * c.y0 - p.2) ∈ circleOctants c ∧
      (c.x0 + (p.2 - c.y0), c.y0 + (p.1 - c.x0)) ∈ circleOctants c := by
  simp only [mem_circleOctants] at hp ⊢
  omega

/-- Settles O56: the recurrence's invariants by induction on the rounds, and each point's properties from its round's. -/
theorem circleIsEightWaySymmetric : Obligations.CircleIsEightWaySymmetric := by
  refine ⟨?recurrence, fun x0 y0 r p hp => ?point⟩
  case recurrence =>
    rintro x0 y0 r n c d rfl rfl
    refine ⟨circleVarsAt_x0 .., circleVarsAt_y0 .., circleVarsAt_u .., ?_, circleVarsAt_ddFy .., ?_, ?_,
      circleVarsAt_v_succ ..⟩
    · rw [circleVarsAt_ddFx, circleVarsAt_u]
    · rw [circleVarsAt_f, circleVarsAt_u]
    · rintro rfl
      rfl
  case point =>
    obtain ⟨n, h⟩ := exists_circleRounds x0 y0 r
    obtain ⟨k, hk, hround⟩ := (mem_circlePoints h p).1 hp
    obtain ⟨hx, hy, hd⟩ := circleOctants_symmetric hround
    rw [circleVarsAt_x0, circleVarsAt_y0] at hd
    rw [circleVarsAt_x0] at hx
    rw [circleVarsAt_y0] at hy
    simp only [mem_circlePoints h]
    obtain ⟨u, v, hu, hur, hv, hvr, herror, ⟨h1, h2⟩ | ⟨h1, h2⟩⟩ := exists_round_of_mem hp
    · rw [← sq_abs (p.1 - x0), ← sq_abs (p.2 - y0), h1, h2]
      exact ⟨hur, hvr, herror, ⟨k, hk, hx⟩, ⟨k, hk, hy⟩, ⟨k, hk, hd⟩⟩
    · rw [← sq_abs (p.1 - x0), ← sq_abs (p.2 - y0), h1, h2, add_comm (v ^ 2), max_comm v]
      exact ⟨hvr, hur, herror, ⟨k, hk, hx⟩, ⟨k, hk, hy⟩, ⟨k, hk, hd⟩⟩

/-! ### How many points are distinct (R162) -/

theorem circleExtremes_nodup (x0 y0 : Int) {r : Int} (hr : 0 < r) : (circleExtremes x0 y0 r).Nodup := by
  simp only [circleExtremes, List.nodup_cons, List.mem_cons, List.not_mem_nil, or_false, Prod.ext_iff, List.nodup_nil,
    not_false_eq_true, true_and, and_true]
  omega

theorem circleOctants_nodup {c : CircleVars} (hu : 0 < c.u) (huv : c.u < c.v) : (circleOctants c).Nodup := by
  simp only [circleOctants, List.nodup_cons, List.mem_cons, List.not_mem_nil, or_false, Prod.ext_iff, List.nodup_nil,
    not_false_eq_true, true_and, and_true]
  omega

/-- Rounds of which u < v share no point: u is the smaller distance of each point from the centre. -/
theorem circleOctants_disjoint {x0 y0 r : Int} {j k : Nat} (hj : (j : Int) < (circleVarsAt x0 y0 r j).v)
    (hk : (k : Int) < (circleVarsAt x0 y0 r k).v) (hjk : j ≠ k) :
    List.Disjoint (circleOctants (circleVarsAt x0 y0 r j)) (circleOctants (circleVarsAt x0 y0 r k)) := by
  intro p hpj hpk
  simp only [mem_circleOctants, circleVarsAt_x0, circleVarsAt_y0, circleVarsAt_u] at hpj hpk
  omega

/-- Where u < v in every round, no point repeats: not within a round, and not from one round to another. -/
theorem roundPoints_nodup {x0 y0 r : Int} {n : Nat} (hrounds : ∀ j ≤ n, (j : Int) < (circleVarsAt x0 y0 r j).v) :
    (roundPoints x0 y0 r n).Nodup := by
  induction n with
  | zero =>
    have hr : 0 < r := hrounds 0 le_rfl
    simpa [roundPoints] using circleExtremes_nodup x0 y0 hr
  | succ n ih =>
    have huv := hrounds (n + 1) le_rfl
    rw [roundPoints_succ]
    refine List.Nodup.append (ih fun j hj => hrounds j (by omega))
      (circleOctants_nodup (by rw [circleVarsAt_u]; omega) (by rwa [circleVarsAt_u])) fun p hp hlast => ?_
    obtain ⟨k, hk, hround⟩ := (mem_roundPoints ..).1 hp
    exact circleOctants_disjoint (hrounds k (by omega)) huv (by omega) hround hlast

/-- A last round that passes the diagonal, u = v + 1, only repeats the points of the round before it. -/
theorem circleOctants_mirror {x0 y0 r : Int} {n : Nat} (hn : (circleVarsAt x0 y0 r n).v = n + 1)
    (hpass : (circleVarsAt x0 y0 r (n + 1)).v = n) {p : Point} (hp : p ∈ circleOctants (circleVarsAt x0 y0 r (n + 1))) :
    p ∈ circleOctants (circleVarsAt x0 y0 r n) := by
  simp only [mem_circleOctants, circleVarsAt_x0, circleVarsAt_y0, circleVarsAt_u, hn, hpass, Nat.cast_succ] at hp ⊢
  omega

/-- Of n + 1 rounds of which the last passes the diagonal, the last adds no new point. -/
theorem length_circlePoints_of_pass {x0 y0 : Int} {r n : Nat} (h : CircleRounds x0 y0 r (n + 1))
    (hpass : (circleVarsAt x0 y0 r (n + 1)).v = n) :
    (circlePoints x0 y0 r).length = 4 + 8 * (n + 1) ∧ (circlePoints x0 y0 r).dedup.length = 4 + 8 * n := by
  have ⟨_, hrounds, _⟩ := h
  have hbefore : ∀ j ≤ n, (j : Int) < (circleVarsAt x0 y0 r j).v := fun j hj => hrounds j (by omega)
  have hlast : (circleVarsAt x0 y0 r n).v = n + 1 := by
    have hstep := circleVarsAt_v_succ x0 y0 r n
    have huv := hbefore n le_rfl
    split at hstep <;> omega
  have hmirror : circleOctants (circleVarsAt x0 y0 r (n + 1)) ⊆ roundPoints x0 y0 r n := fun p hp =>
    (mem_roundPoints ..).2 ⟨n, le_rfl, circleOctants_mirror hlast hpass hp⟩
  rw [circlePoints_eq_roundPoints h]
  refine ⟨length_roundPoints .., ?_⟩
  rw [roundPoints_succ, (List.Subset.dedup_append_left hmirror).length_eq, (roundPoints_nodup hbefore).dedup,
    length_roundPoints]

/-- The loop ends on the diagonal or one past it. -/
theorem circleVarsAt_v_end {x0 y0 : Int} {r n : Nat} (h : CircleRounds x0 y0 r (n + 1)) :
    (circleVarsAt x0 y0 r (n + 1)).v = n + 1 ∨ (circleVarsAt x0 y0 r (n + 1)).v = n := by
  obtain ⟨-, hrounds, hend⟩ := h
  have hstep := circleVarsAt_v_succ x0 y0 r n
  have huv := hrounds n (Nat.lt_succ_self n)
  split at hstep <;> omega

/-- Where r^2 lies so by the square 2 n^2 of the diagonal, the loop makes n + 1 rounds and its last one passes the diagonal:
the error bound leaves no other number of rounds. -/
theorem circleRounds_of_radius {r n : Nat} (hlow : 2 * n ^ 2 + n < r ^ 2) (hhigh : r ^ 2 ≤ 2 * n ^ 2 + 3 * n + 1)
    (x0 y0 : Int) : CircleRounds x0 y0 r (n + 1) ∧ (circleVarsAt x0 y0 r (n + 1)).v = n := by
  have hr : 0 < r := by
    rcases r.eq_zero_or_pos with rfl | hr
    · simp at hlow
    · exact hr
  obtain ⟨m, h⟩ := exists_circleRounds x0 y0 r
  have ⟨_, hrounds, hend⟩ := h
  cases m with
  | zero =>
    have hr0 : (r : Int) ≤ (0 : Nat) := hend
    omega
  | succ m =>
    obtain ⟨herror, herror'⟩ := circleVarsAt_error hr hrounds
    zify at hlow hhigh
    rcases circleVarsAt_v_end h with hv | hv <;> rw [hv] at herror herror' <;> push_cast at herror herror'
    · rw [max_self] at herror herror'
      exfalso
      rcases lt_or_ge m n with hmn | hmn <;> nlinarith
    · rw [max_eq_left (by omega)] at herror herror'
      obtain rfl : m = n := by
        rcases lt_trichotomy m n with hmn | hmn | hmn
        · nlinarith
        · exact hmn
        · nlinarith
      exact ⟨h, hv⟩

/-- Settles O55: the extremes coincide at radius 0, and each other row of the table is a number of rounds that the radius
fixes, whose last round passes the diagonal. -/
theorem circleCountsMatchTheTable : Obligations.CircleCountsMatchTheTable := by
  intro x0 y0
  have counts {r n : Nat} (hlow : 2 * n ^ 2 + n < r ^ 2) (hhigh : r ^ 2 ≤ 2 * n ^ 2 + 3 * n + 1) :
      (circlePoints x0 y0 r).length = 4 + 8 * (n + 1) ∧ (circlePoints x0 y0 r).dedup.length = 4 + 8 * n := by
    obtain ⟨h, hpass⟩ := circleRounds_of_radius hlow hhigh x0 y0
    exact length_circlePoints_of_pass h hpass
  obtain ⟨h1, h1'⟩ := counts (r := 1) (n := 0) (by norm_num) (by norm_num)
  obtain ⟨h5, h5'⟩ := counts (r := 5) (n := 3) (by norm_num) (by norm_num)
  obtain ⟨h50, h50'⟩ := counts (r := 50) (n := 35) (by norm_num) (by norm_num)
  have h0 : (circlePoints x0 y0 0).dedup.length = 1 := by simp [circlePoints, circleExtremes, circleRun]
  exact ⟨rfl, h0, h1, h1', h5, h5', h50, h50'⟩

end Sys2Proof.Proofs
end


section
/-! What the raster commands leave on the screen under the reference controller (20_memory.md R90 to R96, 41_raster.md R150,
R159): a window takes the pixels of its cells in raster order, and a colour sent often enough fills it. -/

namespace Sys2Proof.Proofs

open Sys2Proof.Machine Sys2Proof.Safety

/-! ### Programming the window (R91, R137) -/

theorem ctrlFrame_cmdFrame (opc : BitVec 24) (k : Controller) (b : Byte) :
    ctrlFrame opc k (cmdFrame b) = ctrlCommand opc b k := by
  have htag : ¬ (cmdFrame b).getLsbD 8 = true := by
    rw [cmdFrame, BitVec.getLsbD_append]
    simp
  have hpayload : (cmdFrame b).extractLsb' 0 8 = b := BitVec.extractLsb'_append_eq_right
  rw [ctrlFrame, if_neg htag, hpayload]

theorem ctrlFrames_append (opc : BitVec 24) (k : Controller) (fs gs : List Frame) :
    ctrlFrames opc k (fs ++ gs) = ctrlFrames opc (ctrlFrames opc k fs) gs := List.foldl_append

/-- k with the window set to these bounds, the pointer at its first cell, ready for a pixel's first byte. -/
def windowed (r0 r1 c0 c1 : Byte) (k : Controller) : Controller :=
  { k with rs := r0, re := r1, cs := c0, ce := c1, r := r0.toNat, c := c0.toNat, phase := 0, mode := .write }

theorem ctrlFrames_windowFrames {opc : BitVec 24} (hopc : opcDistinct opc = true) (k : Controller) (r0 r1 c0 c1 : Int) :
    ctrlFrames opc k (windowFrames opc r0 r1 c0 c1) = windowed (lowByte r0) (lowByte r1) (lowByte c0) (lowByte c1) k := by
  simp only [opcDistinct, Bool.and_eq_true, bne_iff_ne] at hopc
  obtain ⟨⟨hpc, hpr⟩, hcr⟩ := hopc
  simp only [ctrlFrames, windowFrames, List.foldl_cons, List.foldl_nil, ctrlFrame_cmdFrame, ctrlFrame_dataFrame, ctrlCommand,
    ctrlData, if_true, if_neg hpc.symm, if_neg hpr.symm, if_neg hcr.symm]
  rfl

/-! ### A window's cells in raster order (R93) -/

/-- The rows and columns of a window. -/
structure Window where
  top : Nat
  bottom : Nat
  left : Nat
  right : Nat

/-- A window that the block may program (R94). -/
def Window.Valid (w : Window) : Prop := w.top ≤ w.bottom ∧ w.bottom ≤ 131 ∧ w.left ≤ w.right ∧ w.right ≤ 131

def Window.Has (w : Window) (p : Nat × Nat) : Prop := w.top ≤ p.1 ∧ p.1 ≤ w.bottom ∧ w.left ≤ p.2 ∧ p.2 ≤ w.right

def Window.width (w : Window) : Nat := w.right - w.left + 1

def Window.area (w : Window) : Nat := (w.bottom - w.top + 1) * w.width

/-- The cell after p: columns fastest, and from the last cell to the first. -/
def Window.next (w : Window) (p : Nat × Nat) : Nat × Nat :=
  if w.right < p.2 + 1 then if w.bottom < p.1 + 1 then (w.top, w.left) else (p.1 + 1, w.left) else (p.1, p.2 + 1)

/-- The i-th cell in raster order. -/
def Window.cell (w : Window) (i : Nat) : Nat × Nat := w.next^[i] (w.top, w.left)

theorem Window.cell_succ (w : Window) (i : Nat) : w.cell (i + 1) = w.next (w.cell i) := Function.iterate_succ_apply' ..

theorem Window.has_next {w : Window} (hw : w.Valid) {p : Nat × Nat} (hp : w.Has p) : w.Has (w.next p) := by
  simp only [Window.Valid, Window.Has, Window.next] at *
  split
  · split <;> omega
  · omega

theorem Window.has_cell {w : Window} (hw : w.Valid) (i : Nat) : w.Has (w.cell i) := by
  induction i with
  | zero =>
    obtain ⟨hrows, -, hcols, -⟩ := hw
    exact ⟨le_rfl, hrows, le_rfl, hcols⟩
  | succ i ih => rw [cell_succ]; exact has_next hw ih

/-- Within a row the column advances. -/
theorem Window.iterate_next_in_row {w : Window} {r b : Nat} (hb : w.left + b ≤ w.right) :
    w.next^[b] (r, w.left) = (r, w.left + b) := by
  induction b with
  | zero => rfl
  | succ b ih =>
    rw [Function.iterate_succ_apply', ih (by omega), Window.next, if_neg (by omega), Nat.add_assoc]

/-- A whole row leads to the next row. -/
theorem Window.iterate_next_row {w : Window} (hw : w.Valid) {r : Nat} (hr : r < w.bottom) :
    w.next^[w.width] (r, w.left) = (r + 1, w.left) := by
  obtain ⟨-, -, hcols, -⟩ := hw
  rw [Window.width, Function.iterate_succ_apply', iterate_next_in_row (by omega), Window.next, if_pos (by omega),
    if_neg (by omega)]

/-- The row a and column b of the window come after a rows and b cells. -/
theorem Window.cell_eq {w : Window} (hw : w.Valid) {a b : Nat} (ha : w.top + a ≤ w.bottom) (hb : w.left + b ≤ w.right) :
    w.cell (a * w.width + b) = (w.top + a, w.left + b) := by
  have hrows : w.cell (a * w.width) = (w.top + a, w.left) := by
    induction a with
    | zero => simp [Window.cell]
    | succ a ih =>
      have hnext := iterate_next_row hw (r := w.top + a) (by omega)
      rw [Nat.succ_mul, Nat.add_comm, Window.cell, Function.iterate_add_apply, ← Window.cell, ih (by omega), hnext]
      rfl
  rw [Nat.add_comm, Window.cell, Function.iterate_add_apply, ← Window.cell, hrows, iterate_next_in_row hb]

/-- The window's cells are those of its first `area` steps. -/
theorem Window.exists_cell {w : Window} (hw : w.Valid) {p : Nat × Nat} (hp : w.Has p) : ∃ i < w.area, w.cell i = p := by
  obtain ⟨htop, hbottom, hleft, hright⟩ := hp
  refine ⟨(p.1 - w.top) * w.width + (p.2 - w.left), ?_, ?_⟩
  · have hrow : p.1 - w.top + 1 ≤ w.bottom - w.top + 1 := by omega
    calc (p.1 - w.top) * w.width + (p.2 - w.left) < (p.1 - w.top) * w.width + w.width := by
          rw [Window.width]
          omega
      _ = (p.1 - w.top + 1) * w.width := (Nat.succ_mul ..).symm
      _ ≤ w.area := Nat.mul_le_mul_right _ hrow
  · rw [cell_eq hw (by omega) (by omega)]
    exact Prod.ext (by simp; omega) (by simp; omega)

/-! ### Pixels through a window (R93) -/

/-- k's window is w, and its write pointer is at p. -/
structure PointsAt (w : Window) (p : Nat × Nat) (k : Controller) : Prop where
  top : k.rs.toNat = w.top
  bottom : k.re.toNat = w.bottom
  left : k.cs.toNat = w.left
  right : k.ce.toNat = w.right
  row : k.r = p.1
  col : k.c = p.2

theorem PointsAt.windowOk {w : Window} {p : Nat × Nat} {k : Controller} (h : PointsAt w p k) (hw : w.Valid) :
    ctrlWindowOk k = true := by
  obtain ⟨hrows, hbottom, hcols, hright⟩ := hw
  simp only [ctrlWindowOk, BitVec.le_def, h.top, h.bottom, h.left, h.right, Config.rowMax, Config.colMax, Bool.and_eq_true,
    decide_eq_true_iff]
  omega

theorem PointsAt.advance {w : Window} {p : Nat × Nat} {k : Controller} (h : PointsAt w p k) :
    PointsAt w (w.next p) (ctrlAdvance k) := by
  have hcols : (k.ce.toNat : Int) < k.c + 1 ↔ w.right < p.2 + 1 := by rw [h.right, h.col]; omega
  have hrows : (k.re.toNat : Int) < k.r + 1 ↔ w.bottom < p.1 + 1 := by rw [h.bottom, h.row]; omega
  by_cases hc : w.right < p.2 + 1
  · rw [Window.next, if_pos hc, ctrlAdvance, if_pos (hcols.2 hc)]
    by_cases hr : w.bottom < p.1 + 1
    · rw [if_pos hr, if_pos (hrows.2 hr)]
      exact ⟨h.top, h.bottom, h.left, h.right, congrArg _ h.top, congrArg _ h.left⟩
    · rw [if_neg hr, if_neg (hr ∘ hrows.1)]
      exact ⟨h.top, h.bottom, h.left, h.right, congrArg (· + 1) h.row, congrArg _ h.left⟩
  · rw [Window.next, if_neg hc, ctrlAdvance, if_neg (hc ∘ hcols.1)]
    exact ⟨h.top, h.bottom, h.left, h.right, h.row, congrArg (· + 1) h.col⟩

theorem putPixel_of_windowOk {k : Controller} (h : ctrlWindowOk k = true) (v : Colour) :
    putPixel v k = ctrlAdvance { k with received := k.received + 1, pixels := ((k.r, k.c), v) :: k.pixels } := if_pos h

theorem PointsAt.putPixel {w : Window} {p : Nat × Nat} {k : Controller} (h : PointsAt w p k) (hw : w.Valid) (v : Colour) :
    PointsAt w (w.next p) (putPixel v k) := by
  rw [putPixel_of_windowOk (h.windowOk hw)]
  exact PointsAt.advance ⟨h.top, h.bottom, h.left, h.right, h.row, h.col⟩

theorem pixelAt_ctrlAdvance (k : Controller) (q : Point) : pixelAt (ctrlAdvance k) q = pixelAt k q := by
  simp only [ctrlAdvance]
  split
  · split <;> rfl
  · rfl

theorem PointsAt.pixelAt_putPixel {w : Window} {p : Nat × Nat} {k : Controller} (h : PointsAt w p k) (hw : w.Valid)
    (v : Colour) (q : Point) : pixelAt (Machine.putPixel v k) q = if q = (↑p.1, ↑p.2) then v else pixelAt k q := by
  rw [putPixel_of_windowOk (h.windowOk hw), pixelAt_ctrlAdvance]
  by_cases hq : q = (↑p.1, ↑p.2)
  · rw [if_pos hq]
    simp [pixelAt, pixelIn, h.row, h.col, hq]
  · rw [if_neg hq]
    simp [pixelAt, pixelIn, h.row, h.col, Ne.symm hq]

/-! ### A colour sent n times -/

section

variable {w : Window} {k : Controller} (h : PointsAt w (w.top, w.left) k) (hw : w.Valid)

include h hw

theorem pointsAt_putPixels (v : Colour) (n : Nat) : PointsAt w (w.cell n) ((putPixel v)^[n] k) := by
  induction n with
  | zero => exact h
  | succ n ih =>
    rw [Function.iterate_succ_apply', w.cell_succ]
    exact ih.putPixel hw v

theorem pixelAt_putPixels_succ (v : Colour) (n : Nat) (q : Point) : pixelAt ((putPixel v)^[n + 1] k) q =
    if q = (↑(w.cell n).1, ↑(w.cell n).2) then v else pixelAt ((putPixel v)^[n] k) q := by
  rw [Function.iterate_succ_apply']
  exact (pointsAt_putPixels h hw v n).pixelAt_putPixel hw v q

/-- A cell that the pointer has passed holds the colour, whatever comes after it. -/
theorem pixelAt_putPixels_of_passed (v : Colour) {i n : Nat} (hi : i < n) :
    pixelAt ((putPixel v)^[n] k) (↑(w.cell i).1, ↑(w.cell i).2) = v := by
  induction n, hi using Nat.le_induction with
  | base => rw [pixelAt_putPixels_succ h hw, if_pos rfl]
  | succ n _ ih => rw [pixelAt_putPixels_succ h hw, ih, ite_self]

theorem pixelAt_putPixels_outside (v : Colour) (n : Nat) {q : Point}
    (hq : ∀ p, w.Has p → q ≠ (↑p.1, ↑p.2)) : pixelAt ((putPixel v)^[n] k) q = pixelAt k q := by
  induction n with
  | zero => rfl
  | succ n ih => rw [pixelAt_putPixels_succ h hw, if_neg (hq _ (w.has_cell hw n)), ih]

/-- One pixel for each cell or more fills the window, and nothing but the window (R157, R159). -/
theorem pixelAt_filled (v : Colour) {n : Nat} (hn : w.area ≤ n) (q : Point) :
    pixelAt ((putPixel v)^[n] k) q =
      if (w.top : Int) ≤ q.1 ∧ q.1 ≤ w.bottom ∧ (w.left : Int) ≤ q.2 ∧ q.2 ≤ w.right then v else pixelAt k q := by
  split
  · rename_i hq
    obtain ⟨i, hi, hcell⟩ := w.exists_cell hw (p := (q.1.toNat, q.2.toNat)) (by simp only [Window.Has]; omega)
    have hpoint : ((↑(w.cell i).1, ↑(w.cell i).2) : Point) = q := by
      rw [hcell]
      exact Prod.ext (by simp; omega) (by simp; omega)
    rw [← hpoint]
    exact pixelAt_putPixels_of_passed h hw v (hi.trans_le hn)
  · rename_i hq
    refine pixelAt_putPixels_outside h hw v n fun p hp hqp => hq ?_
    obtain ⟨htop, hbottom, hleft, hright⟩ := hp
    subst hqp
    exact ⟨by simpa, by simpa, by simpa, by simpa⟩

end

/-! ### Pairs of one colour -/

/-- n pairs of a colour are 2 n pixels of it (R138, R145). -/
theorem ctrlFrames_pairsFrames (opc : BitVec 24) (v : Colour) (n : Nat) {k : Controller} (hmode : k.mode = .write)
    (hphase : k.phase = 0) : ∃ pp, ctrlFrames opc k (pairsFrames v n) = withAssembly ((putPixel v)^[2 * n] k) pp 0 := by
  induction n generalizing k with
  | zero =>
    have hkeep : withAssembly k k.partialPixel k.phase = k := rfl
    rw [hphase] at hkeep
    exact ⟨k.partialPixel, hkeep.symm⟩
  | succ n ih =>
    have hpair := packedPairsUnpack opc k v v hmode hphase
    obtain ⟨pp, hrest⟩ := ih (k := ctrlFrames opc k (pairFrames v v))
      (by rw [hpair]; exact ((putPixel_mode ..).trans (putPixel_mode ..)).trans hmode) (by rw [hpair])
    have hcommute : Function.Commute (putPixel v) (withAssembly · (v.extractLsb' 8 4 ++ 0#8) 0) :=
      fun k => putPixel_withAssembly v k _ 0
    refine ⟨pp, ?_⟩
    have hswap := congrArg (withAssembly · pp 0) (hcommute.iterate_left (2 * n) (putPixel v (putPixel v k)))
    rw [pairsFrames, ctrlFrames_append, hrest, hpair, Nat.mul_succ, Function.iterate_add_apply]
    exact hswap

theorem toNat_lowByte {m : Nat} (hm : m ≤ 131) : (lowByte m).toNat = m := by
  rw [lowByte, BitVec.ofInt_natCast, BitVec.toNat_ofNat]
  omega

theorem pointsAt_windowed {w : Window} (hw : w.Valid) (k : Controller) : PointsAt w (w.top, w.left)
    (windowed (lowByte w.top) (lowByte w.bottom) (lowByte w.left) (lowByte w.right) k) := by
  obtain ⟨hrows, hbottom, hcols, hright⟩ := hw
  have htop := toNat_lowByte (hrows.trans hbottom)
  have hleft := toNat_lowByte (hcols.trans hright)
  exact ⟨htop, toNat_lowByte hbottom, hleft, toNat_lowByte hright, congrArg _ htop, congrArg _ hleft⟩

/-- A window programmed and filled: the window's cells hold the colour, every other pixel is as it was. -/
theorem pixelAt_window_pairs {opc : BitVec 24} (hopc : opcDistinct opc = true) (k : Controller) {w : Window} (hw : w.Valid)
    (v : Colour) {n : Nat} (hn : w.area ≤ 2 * n) (q : Point) :
    pixelAt (ctrlFrames opc k (windowFrames opc w.top w.bottom w.left w.right ++ pairsFrames v n)) q =
      if (w.top : Int) ≤ q.1 ∧ q.1 ≤ w.bottom ∧ (w.left : Int) ≤ q.2 ∧ q.2 ≤ w.right then v else pixelAt k q := by
  rw [ctrlFrames_append, ctrlFrames_windowFrames hopc]
  obtain ⟨pp, hpairs⟩ := ctrlFrames_pairsFrames opc v n
    (k := windowed (lowByte w.top) (lowByte w.bottom) (lowByte w.left) (lowByte w.right) k) rfl rfl
  rw [hpairs]
  exact pixelAt_filled (pointsAt_windowed hw k) hw v hn q

/-- Settles O59: a window of one cell, and one pair that writes the cell twice. -/
theorem pixelPaintsOnePixel : Obligations.PixelPaintsOnePixel := by
  intro opc k x y c hopc hx hy q
  have hpainted := pixelAt_window_pairs hopc k (w := { top := x, bottom := x, left := y, right := y })
    ⟨le_rfl, hx, le_rfl, hy⟩ c (n := 1) (by simp [Window.area, Window.width]) q
  have hcell : (x : Int) ≤ q.1 ∧ q.1 ≤ x ∧ (y : Int) ≤ q.2 ∧ q.2 ≤ y ↔ q = (↑x, ↑y) := by
    rw [Prod.ext_iff]
    omega
  simp only [hcell] at hpainted
  exact hpainted

/-- Settles O60: RECTF's frames are its box's window and at least half as many pairs as the box has cells. -/
theorem filledRectanglePaintsItsBox : Obligations.FilledRectanglePaintsItsBox := by
  intro s k x0 y0 x1 y1 c hb hidle hopc hx0 hy0 hx1 hy1
  obtain ⟨hexec, hrun⟩ := command_draws rfl (refBody_rectf hx0 hy0 hx1 hy1 c s) hb hidle
  refine ⟨hexec, _, _, _, hrun, rfl, rfl, fun q => ?_⟩
  have hpainted := pixelAt_window_pairs hopc k
    (w := { top := min x0 x1, bottom := max x0 x1, left := min y0 y1, right := max y0 y1 })
    (by simp only [Window.Valid]; omega) c
    (n := ((max x0 x1 - min x0 x1 + 1) * (max y0 y1 - min y0 y1 + 1) + 1) / 2 + 130)
    (by simp only [Window.area, Window.width]; omega) q
  rw [hpainted]
  simp only [Nat.cast_min, Nat.cast_max]

end Sys2Proof.Proofs
end


section
/-! CHAR and STRING drawn to their ends (42_glyph.md R182 to R194): the frames and reads of a glyph whose table is readable,
and the string loop as its characters' glyphs one after another. -/

namespace Sys2Proof.Proofs

open Sys2Proof.Machine Sys2Proof.Safety

/-! ### A command whose pseudocode completes -/

/-- A command whose pseudocode completes is accepted, and the sequencer makes its frames and reads and ends Idle, the error
record as it was (R14, R108). -/
theorem command_completes {i : Instr} {c : Ctl} {s : State} {fs : List Frame} {as : List Word} (hc : bodyOf i = some c)
    (hbody : refBody i s = { frames := fs, reads := as, result := .done }) (hb : gfxBusy s = false) (hidle : LinkIdle s) :
    exec i s = .next (launched c s) ∧ ∃ n, rasterRun n (launched c s) = .next
      { s with
        latched := s.cmdHi ++ s.cmdLo
        seq := .idle
        frames := s.frames ++ fs
        gfxReads := s.gfxReads ++ as } := by
  obtain ⟨hexec, hrun⟩ := sequencerRefinesThePseudocode i c s hc hb
  rw [hbody] at hrun
  exact ⟨hexec, _, hrun hidle (.inl rfl)⟩

/-! ### Glyph tables and rows (R182 to R184) -/

@[simp] theorem headerAddr_zero (base : Word) : headerAddr base 0 = base := BitVec.add_zero base

/-- RowAddr in natural numbers, where the code and the row are in range (R183). -/
theorem rowAddr_eq {stride code row : Nat} (hcode : 0x20 ≤ code) (hrow : row < stride) (base : Word) :
    rowAddr base stride code row = base + BitVec.ofNat 32 (stride * (code - 0x1F) + (stride - 1 - row)) := by
  have hoffset : (stride : Int) * ((code : Int) - 0x1F) + stride - 1 - row =
      ((stride * (code - 0x1F) + (stride - 1 - row) : Nat) : Int) := by
    obtain ⟨c, rfl⟩ := Nat.exists_eq_add_of_le (Nat.le_of_succ_le hcode)
    have hcode' : ((0x1F + c : Nat) : Int) - 0x1F = c := by omega
    rw [Nat.add_sub_cancel_left, hcode', Nat.cast_add, Nat.cast_mul]
    omega
  rw [rowAddr, hoffset, BitVec.ofInt_natCast]

theorem fontBase_eq (s : State) (size : BitVec 2) :
    fontBase s size = if size = 0 then s.font0 else if size = 1 then s.font1 else s.font2 := by
  fin_cases size <;> rfl

/-- The pairs of a row byte: pixels 2i and 2i + 1 from pixel j on, for each i (R184). -/
theorem rowPairs_eq (g : GlyphVars) (bits : Byte) (n j : Nat) :
    rowPairs g bits n j =
      (List.range n).flatMap fun i => pairFrames (rowPixel g bits (j + 2 * i)) (rowPixel g bits (j + (2 * i + 1))) := by
  induction n generalizing j with
  | zero => rfl
  | succ n ih =>
    have hshift (i : Nat) : j + 2 + 2 * i = j + 2 * (i + 1) := by ring
    have hshift' (i : Nat) : j + 2 + (2 * i + 1) = j + (2 * (i + 1) + 1) := by ring
    rw [rowPairs, ih, List.range_succ_eq_map, List.flatMap_cons, List.flatMap_map]
    simp only [hshift, hshift', Nat.succ_eq_add_one]
    rfl

theorem rowFrames_eq (g : GlyphVars) (h : GlyphHeader) (bits : Byte) :
    rowFrames g h bits =
      (List.range (h.cols / 2)).flatMap fun i => pairFrames (rowPixel g bits (2 * i)) (rowPixel g bits (2 * i + 1)) := by
  simp only [rowFrames, rowPairs_eq, Nat.zero_add]

/-- The glyph's window in natural numbers (R187). -/
theorem glyphWindow_eq {g : GlyphVars} {h : GlyphHeader} {x y : Nat} (hx : g.x = x) (hy : g.y = y) (hrows : 1 ≤ h.rows)
    (hcols : 1 ≤ h.cols) (opc : BitVec 24) :
    glyphWindow opc g h = windowFrames opc x (x + h.rows - 1 : Nat) y (y + h.cols - 1 : Nat) := by
  rw [glyphWindow, hx, hy, Nat.cast_sub (by omega), Nat.cast_sub (by omega)]
  rfl

/-! ### A glyph whose table is readable (R182, R187) -/

/-- The last n rows, each byte answered: row by row its read and its pairs. -/
theorem refRows_of_values {s : State} {g : GlyphVars} {h : GlyphHeader} {bits : Nat → Byte}
    (hbits : ∀ k, k < h.rows → memRead1 s (rowAddr (fontBase s g.size) h.stride g.code k) = .value (bits k))
    (n : Nat) (hn : n ≤ h.rows) :
    refRows s g h refDone n =
      { frames := (List.range' (h.rows - n) n).flatMap fun k => rowFrames g h (bits k)
        reads := (List.range' (h.rows - n) n).map fun k => rowAddr (fontBase s g.size) h.stride g.code k
        result := .done } := by
  induction n with
  | zero => rfl
  | succ n ih =>
    have hnext : h.rows - (n + 1) + 1 = h.rows - n := by omega
    rw [refRows, refRead_of_value (hbits _ (by omega)), ih (by omega), List.range'_succ, hnext]
    rfl

/-- DrawGlyph with every check passed and every byte answered: the header's reads, the window, and the rows. -/
theorem refGlyph_of_values {s : State} {g : GlyphVars} {cols rows stride : Byte} {bits : Nat → Byte}
    (hsize : g.size ≠ 3) (hcode : codeValid g.code = true)
    (hcols : memRead1 s (headerAddr (fontBase s g.size) 0) = .value cols)
    (hrows : memRead1 s (headerAddr (fontBase s g.size) 1) = .value rows)
    (hstride : memRead1 s (headerAddr (fontBase s g.size) 2) = .value stride)
    (hvalid : headerValid ⟨cols.toNat, rows.toNat, stride.toNat⟩ = true)
    (hpanel : glyphInPanel g ⟨cols.toNat, rows.toNat, stride.toNat⟩ = true)
    (hbits : ∀ k, k < rows.toNat →
      memRead1 s (rowAddr (fontBase s g.size) stride.toNat g.code k) = .value (bits k)) :
    refGlyph s g refDone =
      { frames := glyphWindow s.gfxOpc g ⟨cols.toNat, rows.toNat, stride.toNat⟩ ++
          (List.range rows.toNat).flatMap fun k => rowFrames g ⟨cols.toNat, rows.toNat, stride.toNat⟩ (bits k)
        reads := headerAddr (fontBase s g.size) 0 :: headerAddr (fontBase s g.size) 1 :: headerAddr (fontBase s g.size) 2 ::
          (List.range rows.toNat).map fun k => rowAddr (fontBase s g.size) stride.toNat g.code k
        result := .done } := by
  have hdrawn := refRows_of_values (h := ⟨cols.toNat, rows.toNat, stride.toNat⟩) hbits rows.toNat le_rfl
  rw [Nat.sub_self, ← List.range_eq_range'] at hdrawn
  rw [refGlyph, if_neg hsize, if_pos hcode, refRead_of_value hcols, refRead_of_value hrows, refRead_of_value hstride]
  simp only [hvalid, hpanel, if_true, hdrawn]
  rfl

/-- Settles O18: the pseudocode of a readable glyph, its addresses and window in natural numbers. -/
theorem charDrawsItsGlyph : Obligations.CharDrawsItsGlyph := by
  intro s x y code size fg bg base cols rows stride bits hb hidle hx hy hsize hbase hcode hcode' hcols hrows hstride
    hvalidCols hvalidRows hvalidStride hpanelX hpanelY hbits
  obtain rfl : base = fontBase s size := hbase.trans (fontBase_eq s size).symm
  have haddr (k : Nat) (hk : k < rows.toNat) : rowAddr (fontBase s size) stride.toNat code k =
      fontBase s size + BitVec.ofNat 32 (stride.toNat * (code - 0x1F) + (stride.toNat - 1 - k)) :=
    rowAddr_eq hcode (hk.trans_le hvalidStride) _
  have hglyph := refGlyph_of_values (s := s)
    (g := { x := x, y := y, code := code, size := size, fg := fg, bg := bg, index := none }) hsize
    ((codeValid_iff code).2 ⟨hcode, hcode'⟩) ((congrArg _ (headerAddr_zero _)).trans hcols) hrows hstride
    ((headerValid_iff _).2 ⟨by simpa using hvalidCols, hvalidRows, hvalidStride⟩)
    ((glyphInPanel_iff _ _).2 ⟨by simp only; omega, by simp only; omega⟩)
    (fun k hk => (congrArg _ (haddr k hk)).trans (hbits k hk))
  have hcolsPos : 1 ≤ cols.toNat := Nat.pos_of_ne_zero fun h => by simp [h] at hvalidCols
  refine command_completes (i := .char x y code size fg bg) rfl ?_ hb hidle
  rw [refBody, if_pos ((inPanel_iff x y).2 (by omega)), hglyph, glyphWindow_eq rfl rfl hvalidRows hcolsPos,
    headerAddr_zero]
  simp only [rowFrames_eq]
  rw [List.map_congr_left fun k hk => haddr k (List.mem_range.1 hk)]
  rfl

/-! ### A glyph and what follows it (R187, R193) -/

/-- Pseudocode, and once it completes what follows it; an error or a read without an answer ends both. -/
def refThen (r after : BodyRun) : BodyRun :=
  match r.result with
  | .done => { frames := r.frames ++ after.frames, reads := r.reads ++ after.reads, result := after.result }
  | _ => r

theorem refThen_of_done {r : BodyRun} (h : r.result = .done) (after : BodyRun) :
    refThen r after =
      { frames := r.frames ++ after.frames, reads := r.reads ++ after.reads, result := after.result } := by
  simp only [refThen, h]

@[simp] theorem refThen_refDone (after : BodyRun) : refThen refDone after = after := rfl

@[simp] theorem refThen_refFail (e : GfxError) (after : BodyRun) : refThen (refFail e) after = refFail e := rfl

theorem refThen_refEmit (fs : List Frame) (r after : BodyRun) :
    refThen (refEmit fs r) after = refEmit fs (refThen r after) := by
  obtain ⟨frames, reads, result⟩ := r
  cases result <;> simp [refThen, refEmit]

theorem refThen_refRead (s : State) (a : Word) (k : Byte → BodyRun) (after : BodyRun) :
    refThen (refRead s a k) after = refRead s a fun b => refThen (k b) after := by
  cases hm : memRead1 s a with
  | value b =>
    rw [refRead_of_value hm, refRead_of_value hm]
    cases hk : (k b).result <;> simp [refThen, hk]
  | stuck => simp only [refRead, hm, refThen]
  | device d => simp only [refRead, hm, refThen]

theorem refRows_eq_refThen (s : State) (g : GlyphVars) (h : GlyphHeader) (after : BodyRun) (n : Nat) :
    refRows s g h after n = refThen (refRows s g h refDone n) after := by
  induction n with
  | zero => rfl
  | succ n ih => simp only [refRows, refThen_refRead, refThen_refEmit, ih]

/-- What follows a glyph comes after it (R187). -/
theorem refGlyph_eq_refThen (s : State) (g : GlyphVars) (after : BodyRun) :
    refGlyph s g after = refThen (refGlyph s g refDone) after := by
  simp only [refGlyph, apply_ite (refThen · after), refThen_refFail, refThen_refRead, refThen_refEmit,
    ← refRows_eq_refThen s _ _ after]

/-- The string index is no part of what a row shows (R184). -/
theorem rowFrames_index (g : GlyphVars) (i : Option Nat) (h : GlyphHeader) (bits : Byte) :
    rowFrames { g with index := i } h bits = rowFrames g h bits := by
  rw [rowFrames_eq, rowFrames_eq]
  rfl

theorem refRows_index (s : State) (g : GlyphVars) (i : Option Nat) (h : GlyphHeader) (after : BodyRun) (n : Nat) :
    refRows s { g with index := i } h after n = refRows s g h after n := by
  induction n with
  | zero => rfl
  | succ n ih => simp only [refRows, rowFrames_index, ih]

/-- DrawGlyph draws the same glyph for CHAR and for STRING, at any index (R187). -/
theorem refGlyph_index (s : State) (g : GlyphVars) (i : Option Nat) (after : BodyRun) :
    refGlyph s { g with index := i } after = refGlyph s g after := by
  simp only [refGlyph, refRows_index]
  rfl

/-! ### The string loop (R189 to R194) -/

/-- The pitch in natural numbers (R189). -/
def pitchColumns (size : BitVec 2) : Nat := if size = 0 then 6 else 8

theorem pitch_eq (size : BitVec 2) : pitch size = pitchColumns size := by
  by_cases h : size = 0
  · rw [h]
    rfl
  · rw [pitch_of_other h, pitchColumns, if_neg h]
    rfl

theorem six_le_pitchColumns (size : BitVec 2) : 6 ≤ pitchColumns size :=
  Int.ofNat_le.1 (pitch_eq size ▸ six_le_pitch size)

/-- The arguments of DrawGlyph for character k of a string at (x, y), read as `ch` (R193). -/
def stringGlyph (x y : Nat) (size : BitVec 2) (fg bg : Colour) (k : Nat) (ch : Byte) : GlyphVars :=
  { x := x, y := (y + k * pitchColumns size : Nat), code := ch.toNat, size := size, fg := fg, bg := bg, index := none }

/-- Character k of a string at (x, y): it stands in the panel's columns, reads as `ch`, is not the end, and its glyph is
drawn to its end as `glyph` (R191 to R193). -/
structure CharDrawn (s : State) (x y : Nat) (size : BitVec 2) (fg bg : Colour) (k : Nat) (ch : Byte)
    (glyph : BodyRun) : Prop where
  column : y + k * pitchColumns size ≤ 131
  ne_zero : ch ≠ 0
  read : memRead1 s (stringAddr s k) = .value ch
  done : glyph.result = .done
  eq_refGlyph : glyph = refGlyph s (stringGlyph x y size fg bg k ch) refDone

/-- The string loop at character i and column cy, behind the overflow guard, at most n characters (R192, R193). -/
def refGuarded (s : State) (x : Int) (size : BitVec 2) (fg bg : Colour) (n : Nat) (cy : Int) (i : Nat) : BodyRun :=
  if Config.colMax < cy then refDone else refString s x size fg bg n cy i

theorem refGuarded_of_le {cy : Int} (h : cy ≤ 131) (s : State) (x : Int) (size : BitVec 2) (fg bg : Colour) (n i : Nat) :
    refGuarded s x size fg bg n cy i = refString s x size fg bg n cy i := if_neg (not_lt.2 h)

/-- The 0x00 byte ends the string, and draws nothing (R191). -/
theorem refString_of_terminator {s : State} {i : Nat} (hch : memRead1 s (stringAddr s i) = .value 0) (x : Int)
    (size : BitVec 2) (fg bg : Colour) (n : Nat) (cy : Int) :
    refString s x size fg bg (n + 1) cy i = { refDone with reads := [stringAddr s i] } := by
  rw [refString, refRead_of_value hch]
  rfl

/-- A drawn character of the string loop: its read, its glyph, and the string from one pitch on (R192, R193). -/
theorem CharDrawn.refString_eq {s : State} {x y k : Nat} {size : BitVec 2} {fg bg : Colour} {ch : Byte} {glyph : BodyRun}
    (h : CharDrawn s x y size fg bg k ch glyph) (n : Nat) :
    refString s x size fg bg (n + 1) (y + k * pitchColumns size : Nat) k =
      refRead s (stringAddr s k) fun _ =>
        refThen glyph (refGuarded s x size fg bg n (y + (k + 1) * pitchColumns size : Nat) (k + 1)) := by
  have hnext : ((y + k * pitchColumns size : Nat) : Int) + pitch size = (y + (k + 1) * pitchColumns size : Nat) := by
    rw [pitch_eq, Nat.succ_mul, ← Nat.add_assoc, Nat.cast_add _ (pitchColumns size)]
  rw [refString, refRead_of_value h.read, refRead_of_value h.read, if_neg h.ne_zero, hnext, h.eq_refGlyph,
    ← refGlyph_eq_refThen, ← refGlyph_index s (stringGlyph x y size fg bg k ch) (some k)]
  rfl

/-- The j characters from k on, all of them drawn, then the end: at a 0x00 byte, or at the guard without reading further
(R191, R192). n characters are enough where n steps of at least 6 columns pass column 131. -/
theorem refGuarded_of_chars {s : State} {x y m : Nat} {size : BitVec 2} {fg bg : Colour} {ch : Nat → Byte}
    {glyph : Nat → BodyRun} (hchars : ∀ k, k < m → CharDrawn s x y size fg bg k (ch k) (glyph k))
    (hend : y + m * pitchColumns size ≤ 131 → memRead1 s (stringAddr s m) = .value 0)
    (j k n : Nat) (hj : k + j = m) (hn : 131 < y + k * pitchColumns size + 6 * n) :
    refGuarded s x size fg bg n (y + k * pitchColumns size : Nat) k =
      { frames := (List.range' k j).flatMap fun i => (glyph i).frames
        reads := ((List.range' k j).flatMap fun i => stringAddr s i :: (glyph i).reads) ++
          if y + m * pitchColumns size ≤ 131 then [stringAddr s m] else []
        result := .done } := by
  induction j generalizing k n with
  | zero =>
    obtain rfl : k = m := hj
    by_cases hpanel : y + k * pitchColumns size ≤ 131
    · obtain ⟨n, rfl⟩ : ∃ n', n = n' + 1 := ⟨n - 1, by omega⟩
      rw [refGuarded_of_le (by omega), refString_of_terminator (hend hpanel), if_pos hpanel]
      rfl
    · rw [refGuarded, if_pos (by simp only [Config.colMax]; omega), if_neg hpanel]
      rfl
  | succ j ih =>
    have hk := hchars k (by omega)
    have hcol := hk.column
    have hpitch := six_le_pitchColumns size
    obtain ⟨n, rfl⟩ : ∃ n', n = n' + 1 := ⟨n - 1, by omega⟩
    have hrest := ih (k + 1) n (by omega) (by rw [Nat.succ_mul]; omega)
    rw [refGuarded_of_le (by omega), hk.refString_eq, hrest, refRead_of_value hk.read, refThen_of_done hk.done,
      List.range'_succ]
    simp only [List.flatMap_cons, List.cons_append, List.append_assoc]

/-- Settles O19: the string loop from character 0, whose 22 rounds are enough. -/
theorem stringDrawsItsCharacters : Obligations.StringDrawsItsCharacters := by
  intro s x y size fg bg m ch glyph hb hidle hx hy hchars hend
  have hdrawn (k : Nat) (hk : k < m) : CharDrawn s x y size fg bg k (ch k) (glyph k) := by
    obtain ⟨hcol, hne, hread, hdone, hglyph⟩ := hchars k hk
    exact ⟨hcol, hne, hread, hdone, hglyph⟩
  have hloop := refGuarded_of_chars hdrawn hend m 0 maxStringChars (Nat.zero_add m)
    (by simp only [maxStringChars]; omega)
  rw [Nat.zero_mul, Nat.add_zero, refGuarded_of_le (by omega), ← List.range_eq_range'] at hloop
  exact command_completes (i := .string x y size fg bg) rfl
    ((if_pos ((inPanel_iff x y).2 (by omega))).trans hloop) hb hidle

end Sys2Proof.Proofs
end


section
/-! The audio control operations and the converter (43_audio.md R202, R206 to R208, R213): ARM, PLAY and STOP, one lemma for
each way they can end, and the bits of a played sample. -/

namespace Sys2Proof.Proofs

open Sys2Proof.Machine

/-- A write of AUD_CTRL runs the operation of its word's row in R110's table. -/
theorem hostWrite_of_controlRow {w : Word} {i : Instr} (hrow : ControlRow w i) (s : State) :
    hostWrite 0x40 w s = exec i s := by
  rw [hostWrite_audCtrl, (decodeControl_eq_iff w i).2 hrow]

/-! ### ARM (R206) -/

theorem exec_arm_of_streaming {s : State} (h : s.audState = .streaming) : exec .arm s = .next (recordAud .busy s) :=
  if_pos h

theorem exec_arm_of_stopped {s : State} (h : s.audState ≠ .streaming) :
    exec .arm s = .next { s with audState := .armed, dacEn := true, tmrTc := 0, tmrPc := 0, mr0 := false } :=
  if_neg h

/-- Settles O25: refused while Streaming, accepted otherwise. -/
theorem armConfiguresTheEngine : Obligations.ArmConfiguresTheEngine := by
  intro s w hop
  refine ⟨hostWrite_of_controlRow (.arm hop) s, fun h => ?_, exec_arm_of_stopped⟩
  rw [exec_arm_of_streaming h, recordAud_eq]

/-! ### PLAY (R207) -/

/-- s once a PLAY that passes its checks has started the stream. -/
def streamStarted (s : State) : State :=
  { s with audState := .streaming, done := false, tmrTc := 0, tmrPc := 0, mr0 := false }

theorem exec_play_of_idle {s : State} (h : s.audState = .idle) : exec .play s = .next (recordAud .notArmed s) :=
  if_pos h

theorem exec_play_of_streaming {s : State} (h : s.audState = .streaming) : exec .play s = .next (recordAud .busy s) := by
  simp [exec, execPlay, h, raiseAud]

section

variable {s : State} (ha : s.audState = .armed)
include ha

theorem exec_play_of_zero_count (hcnt : s.audCnt = 0) : exec .play s = .next (recordAud .zeroCount s) := by
  simp [exec, execPlay, ha, hcnt, raiseAud]

theorem exec_play_of_odd_pointer (hcnt : s.audCnt ≠ 0) (hptr : s.audPtr.getLsbD 0 = true) :
    exec .play s = .next (recordAud .align s) := by
  simp only [exec, execPlay, ha, hcnt, hptr, raiseAud, reduceCtorEq, if_true, if_false]

theorem exec_play_of_checked (hcnt : s.audCnt ≠ 0) (hptr : s.audPtr.getLsbD 0 = false) :
    exec .play s = .next (streamStarted s) := by
  simp only [exec, execPlay, ha, hcnt, hptr, reduceCtorEq, Bool.false_eq_true, if_false]
  rfl

end

/-- Settles O26: one lemma for each of the four checks, and one for the start. -/
theorem playChecksThenStarts : Obligations.PlayChecksThenStarts := by
  intro s w hop
  simp only [← recordAud_eq]
  exact ⟨hostWrite_of_controlRow (.play hop) s, exec_play_of_idle, exec_play_of_streaming, exec_play_of_zero_count,
    exec_play_of_odd_pointer, exec_play_of_checked⟩

/-! ### STOP (R208) -/

/-- Settles O27: STOP is one test of the state. -/
theorem stopReturnsToArmed : Obligations.StopReturnsToArmed := fun s _ hop =>
  ⟨hostWrite_of_controlRow (.stop hop) s, fun h => if_pos h, fun h => if_neg h⟩

/-! ### The tick (R202) -/

theorem tick_of_mr0 {s : State} (h : s.mr0 = true) : tick s = s := by
  rw [tick_eq, ← h]

/-- Settles O29: the tick as one update, which where MR0 = 1 writes what stands there. -/
theorem lostTickLeavesNoTrace : Obligations.LostTickLeavesNoTrace := fun s => ⟨tick_eq s, tick_of_mr0⟩

/-! ### The bits of a sample in DAC_DATA (R210, R213) -/

theorem getLsbD_dacWord_low (v : Half) {i : Nat} (hi : i < 6) : (dacWord v).getLsbD i = false := by
  simp [dacWord, Config.sampleShift, hi]

theorem getLsbD_dacWord_add (v : Half) (i : Nat) : (dacWord v).getLsbD (6 + i) = v.getLsbD i := by
  by_cases hi : i < 16
  · have hword : 6 + i < 32 := by omega
    simp [dacWord, Config.sampleShift, hword]
  · have hbit : v.getLsbD i = false := v.getLsbD_of_ge i (Nat.le_of_not_lt hi)
    simp [dacWord, Config.sampleShift, hbit]

theorem extractLsb'_dacWord (v : Half) (lo n : Nat) : (dacWord v).extractLsb' (6 + lo) n = v.extractLsb' lo n := by
  refine BitVec.eq_of_getLsbD_eq fun i _ => ?_
  rw [BitVec.getLsbD_extractLsb', BitVec.getLsbD_extractLsb', Nat.add_assoc, getLsbD_dacWord_add]

/-- Settles O35: the field lies within DAC_DATA, where the sample starts at bit 6. -/
theorem converterTakesTenBits : Obligations.ConverterTakesTenBits := by
  refine ⟨fun s i hlo hi => ?_, fun s v hdac => ⟨fun hlo => ?_, fun hlo => ?_⟩⟩
  · rw [converterCode_of_le hlo, BitVec.getLsbD_extractLsb', decide_eq_true hi, Bool.true_and]
  · rw [converterCode_of_le (by omega), hlo, hdac]
    exact extractLsb'_dacWord v 0 10
  · rw [converterCode_of_le (by omega), hlo, hdac]
    exact extractLsb'_dacWord v 6 10

end Sys2Proof.Proofs
end


section
/-! The timer (43_audio.md R201): one counter modulo its bound at a time, then the pair of them, whose common multiple is the
tick period. -/

namespace Sys2Proof.Proofs

open Sys2Proof.Machine

/-! ### One counter -/

/-- A counter from 0 up to `bound` and round again, after n counts. -/
def counterAt (bound : Word) (n : Nat) : Word := BitVec.ofNat 32 (n % (bound.toNat + 1))

theorem toNat_counterAt (bound : Word) (n : Nat) : (counterAt bound n).toNat = n % (bound.toNat + 1) := by
  have hbound := bound.isLt
  have hmod : n % (bound.toNat + 1) < bound.toNat + 1 := Nat.mod_lt n bound.toNat.succ_pos
  exact Nat.mod_eq_of_lt (by omega)

/-- The counter stands at its bound just before a multiple of its period. -/
theorem counterAt_eq_iff (bound : Word) (n : Nat) : counterAt bound n = bound ↔ bound.toNat + 1 ∣ n + 1 := by
  rw [← BitVec.toNat_inj, toNat_counterAt, ← Nat.succ_mod_succ_eq_zero_iff, Nat.dvd_iff_mod_eq_zero]

theorem counterAt_of_dvd {bound : Word} {n : Nat} (h : bound.toNat + 1 ∣ n) : counterAt bound n = 0 := by
  rw [counterAt, Nat.mod_eq_zero_of_dvd h]
  rfl

theorem counterAt_succ {bound : Word} {n : Nat} (h : ¬ bound.toNat + 1 ∣ n + 1) :
    counterAt bound (n + 1) = counterAt bound n + 1 := by
  have hmod : (n + 1) % (bound.toNat + 1) = n % (bound.toNat + 1) + 1 := by
    have hn := Nat.div_add_mod n (bound.toNat + 1)
    have hsucc := Nat.div_add_mod (n + 1) (bound.toNat + 1)
    rw [Nat.succ_div_of_not_dvd h] at hsucc
    omega
  rw [counterAt, hmod, BitVec.ofNat_add]
  rfl

/-! ### The two counters -/

theorem timerCycle_of_stopped {s : State} (h : s.audState ≠ .streaming) : timerCycle s = s :=
  if_neg fun hr => h ((timerRunning_eq_true_iff s).1 hr)

theorem timerCycle_of_streaming {s : State} (h : s.audState = .streaming) : timerCycle s =
    if s.tmrPc = s.tmrPr then
      if s.tmrTc = s.tmrMr then { s with tmrPc := 0, tmrTc := 0, mr0 := true }
      else { s with tmrPc := 0, tmrTc := s.tmrTc + 1 }
    else { s with tmrPc := s.tmrPc + 1 } :=
  if_pos ((timerRunning_eq_true_iff s).2 h)

theorem timerCycle_mr0 {s : State} (h : s.audState = .streaming) :
    (timerCycle s).mr0 = (s.mr0 || decide (s.tmrPc = s.tmrPr ∧ s.tmrTc = s.tmrMr)) := by
  rw [timerCycle_of_streaming h]
  split_ifs with hpc htc
  · simp [hpc, htc]
  · simp [htc]
  · simp [hpc]

/-- s with the counters cleared at cycle 0, n cycles later: TMR_TC counts the wraps of TMR_PC, and a period has ended or
not. -/
def timerAt (s : State) (n : Nat) : State :=
  { s with
    tmrPc := counterAt s.tmrPr n
    tmrTc := counterAt s.tmrMr (n / (s.tmrPr.toNat + 1))
    mr0 := s.mr0 || decide (tickPeriod s ≤ n) }

theorem timerAt_zero {s : State} (hpc : s.tmrPc = 0) (htc : s.tmrTc = 0) : timerAt s 0 = s := by
  have hperiod : ¬ tickPeriod s ≤ 0 := Nat.not_le.2 (tickPeriod_pos s)
  have hp : counterAt s.tmrPr 0 = s.tmrPc := by rw [hpc]; exact counterAt_of_dvd (dvd_zero _)
  have ht : counterAt s.tmrMr (0 / (s.tmrPr.toNat + 1)) = s.tmrTc := by
    rw [htc, Nat.zero_div]; exact counterAt_of_dvd (dvd_zero _)
  rw [timerAt, hp, ht, decide_eq_false hperiod, Bool.or_false]

/-- A period ends where TMR_PC wraps and takes TMR_TC round with it. -/
theorem tickPeriod_dvd_succ_iff (s : State) (n : Nat) : tickPeriod s ∣ n + 1 ↔
    s.tmrPr.toNat + 1 ∣ n + 1 ∧ s.tmrMr.toNat + 1 ∣ n / (s.tmrPr.toNat + 1) + 1 := by
  constructor
  · intro h
    have hp : s.tmrPr.toNat + 1 ∣ n + 1 := (Nat.dvd_mul_right _ _).trans h
    refine ⟨hp, ?_⟩
    rw [← Nat.succ_div_of_dvd hp]
    exact Nat.dvd_div_of_mul_dvd h
  · rintro ⟨hp, hm⟩
    rw [← Nat.succ_div_of_dvd hp] at hm
    exact (Nat.dvd_div_iff_mul_dvd hp).1 hm

theorem counters_at_bounds_iff (s : State) (n : Nat) :
    (timerAt s n).tmrPc = s.tmrPr ∧ (timerAt s n).tmrTc = s.tmrMr ↔ tickPeriod s ∣ n + 1 := by
  rw [tickPeriod_dvd_succ_iff, ← counterAt_eq_iff, ← counterAt_eq_iff]
  rfl

theorem tickPeriod_le_succ_iff (s : State) (n : Nat) :
    tickPeriod s ≤ n + 1 ↔ tickPeriod s ∣ n + 1 ∨ tickPeriod s ≤ n := by
  refine ⟨fun h => ?_, fun h => h.elim (Nat.le_of_dvd n.succ_pos) Nat.le_succ_of_le⟩
  rcases Nat.lt_or_eq_of_le h with hlt | heq
  · exact .inr (Nat.le_of_lt_succ hlt)
  · exact .inl (heq ▸ dvd_rfl)

/-- One cycle later: TMR_PC counts, or it wraps and TMR_TC counts, or both wrap and the period ends. -/
theorem timerCycle_timerAt {s : State} (h : s.audState = .streaming) (n : Nat) :
    timerCycle (timerAt s n) = timerAt s (n + 1) := by
  have hpc : (timerAt s n).tmrPc = (timerAt s n).tmrPr ↔ s.tmrPr.toNat + 1 ∣ n + 1 := counterAt_eq_iff s.tmrPr n
  have htc : (timerAt s n).tmrTc = (timerAt s n).tmrMr ↔ s.tmrMr.toNat + 1 ∣ n / (s.tmrPr.toNat + 1) + 1 :=
    counterAt_eq_iff s.tmrMr _
  have hperiod := tickPeriod_dvd_succ_iff s n
  have hended := tickPeriod_le_succ_iff s n
  rw [timerCycle_of_streaming (s := timerAt s n) h]
  by_cases hp : s.tmrPr.toNat + 1 ∣ n + 1
  · rw [if_pos (hpc.2 hp)]
    by_cases hm : s.tmrMr.toNat + 1 ∣ n / (s.tmrPr.toNat + 1) + 1
    · rw [if_pos (htc.2 hm)]
      have hend : tickPeriod s ≤ n + 1 := hended.2 (.inl (hperiod.2 ⟨hp, hm⟩))
      simp [timerAt, Nat.succ_div_of_dvd hp, counterAt_of_dvd hp, counterAt_of_dvd hm, hend]
    · rw [if_neg (mt htc.1 hm)]
      simp [timerAt, Nat.succ_div_of_dvd hp, counterAt_of_dvd hp, counterAt_succ hm, hended, hperiod, hm]
  · rw [if_neg (mt hpc.1 hp)]
    simp [timerAt, Nat.succ_div_of_not_dvd hp, counterAt_succ hp, hended, hperiod, hp]

theorem timerRun_eq_iterate (n : Nat) (s : State) : timerRun n s = timerCycle^[n] s := by
  induction n generalizing s with
  | zero => rfl
  | succ n ih => exact ih (timerCycle s)

theorem timerRun_eq_timerAt {s : State} (h : s.audState = .streaming) (hpc : s.tmrPc = 0) (htc : s.tmrTc = 0) (n : Nat) :
    timerRun n s = timerAt s n := by
  induction n with
  | zero => exact (timerAt_zero hpc htc).symm
  | succ n ih => rw [timerRun_eq_iterate, Function.iterate_succ_apply', ← timerRun_eq_iterate, ih, timerCycle_timerAt h]

/-- Settles O28: the closed form by induction on the cycles, and the tick where both counters stand at their bounds. -/
theorem timerTicksOncePerPeriod : Obligations.TimerTicksOncePerPeriod := by
  refine fun s => ⟨timerCycle_of_stopped, timerCycle_of_streaming, fun h hpc htc n => ?_⟩
  have hrun := timerRun_eq_timerAt h hpc htc n
  refine ⟨hrun, ?_⟩
  rw [hrun, timerCycle_mr0 (s := { timerAt s n with mr0 := false }) h, Bool.false_or]
  exact decide_eq_decide.2 ((counters_at_bounds_iff s n).trans (Nat.dvd_iff_mod_eq_zero ..))

end Sys2Proof.Proofs
end


section
/-! The tick service and the stream it plays (20_memory.md R82, 43_audio.md R209 to R212): one lemma for each outcome of the
service's read, and the state between two services in closed form. -/

namespace Sys2Proof.Proofs

open Sys2Proof.Machine

/-! ### Engine reads that are refused (R82) -/

theorem memRead1_of_device {s : State} {a : Word}
    (h : addrKind s.platform a = .device ∨ addrKind s.platform a = .window) : memRead1 s a = .device a := by
  rcases h with h | h <;> rw [memRead1, h]

theorem memRead2_of_first_device {s : State} {a : Word}
    (h : addrKind s.platform a = .device ∨ addrKind s.platform a = .window) : memRead2 s a = .device a := by
  rw [memRead2, memRead1_of_device h]

theorem memRead2_of_second_device {s : State} {a : Word} (hlo : addrKind s.platform a = .plain)
    (hhi : addrKind s.platform (a + 1) = .device ∨ addrKind s.platform (a + 1) = .window) :
    memRead2 s a = .device (a + 1) := by
  rw [memRead2, memRead1_of_plain hlo, memRead1_of_device hhi]

theorem rasterStep_of_device_read {s : State} {c : Ctl} {a : Word} {k : Byte → Ctl} (hseq : s.seq = .running [] c)
    (hact : nextAct c s = .read a k) (h : addrKind s.platform a = .device ∨ addrKind s.platform a = .window) :
    rasterStep s = .refused (.deviceRead a) := by
  rw [rasterStep_of_body hseq, hact, takeAct, memRead1_of_device h]

/-! ### The service's step (R209, R210) -/

theorem serviceStep_of_disabled {s : State} (h : s.mr0 = false ∨ s.audState ≠ .streaming) : serviceStep s = .next s := by
  have hoff : ¬ serviceEnabled s = true := by
    rw [serviceEnabled, Bool.and_eq_true, timerRunning_eq_true_iff]
    rintro ⟨hmr0, ha⟩
    simp [hmr0, ha] at h
  exact if_neg hoff

section

variable {s : State} (hmr0 : s.mr0 = true) (ha : s.audState = .streaming)
include hmr0 ha

theorem serviceEnabled_of_streaming : serviceEnabled s = true := by
  rw [serviceEnabled, hmr0, (timerRunning_eq_true_iff s).2 ha, Bool.and_self]

theorem serviceStep_of_stuck (h : memRead2 s s.audPtr = .stuck) : serviceStep s = .next s := by
  rw [serviceStep, if_pos (serviceEnabled_of_streaming hmr0 ha), h]

theorem serviceStep_of_device {a : Word} (h : memRead2 s s.audPtr = .device a) :
    serviceStep s = .refused (.deviceRead a) := by
  rw [serviceStep, if_pos (serviceEnabled_of_streaming hmr0 ha), h]

theorem serviceStep_of_value {v : Half} (h : memRead2 s s.audPtr = .value v) : serviceStep s = .next (playSample v s) := by
  rw [serviceStep, if_pos (serviceEnabled_of_streaming hmr0 ha), h]

theorem serviceStep_more {v : Half} (h : memRead2 s s.audPtr = .value v) (hcnt : s.audCnt ≠ 1) :
    serviceStep s = .next (servedMore v s) := by
  rw [serviceStep_of_value hmr0 ha h, playSample_more (sub_ne_zero.2 hcnt)]

theorem serviceStep_last {v : Half} (h : memRead2 s s.audPtr = .value v) (hcnt : s.audCnt = 1) :
    serviceStep s = .next { servedLast v s with audCnt := 0 } := by
  have hzero : s.audCnt - 1 = 0 := sub_eq_zero.2 hcnt
  rw [serviceStep_of_value hmr0 ha h, playSample_last hzero, servedLast, hzero]

end

/-- A played sample fills bits 21..6 of DAC_DATA (R210). -/
theorem dacWord_unused_bits (v : Half) :
    (dacWord v).extractLsb' 0 6 = 0#6 ∧ (dacWord v).extractLsb' 22 10 = 0#10 := by
  constructor
  · refine BitVec.eq_of_getLsbD_eq fun i hi => ?_
    rw [BitVec.getLsbD_extractLsb', Nat.zero_add, getLsbD_dacWord_low v hi, Bool.and_false, BitVec.getLsbD_zero]
  · rw [extractLsb'_dacWord v 16 10]
    refine BitVec.eq_of_getLsbD_eq fun i _ => ?_
    rw [BitVec.getLsbD_extractLsb', v.getLsbD_of_ge (16 + i) (Nat.le_add_right 16 i), Bool.and_false, BitVec.getLsbD_zero]

/-- Settles O31: the service is off, its read ends in one of the three ways, and a value read is the last or not. -/
theorem servicePlaysOneSample : Obligations.ServicePlaysOneSample := by
  refine fun s => ⟨serviceStep_of_disabled, fun _ _ _ => rasterStep_of_device_read, fun hmr0 ha => ?_⟩
  refine ⟨serviceStep_of_stuck hmr0 ha, fun h => ?_, fun hlo hhi => ?_, fun v hread => ?_⟩
  · exact serviceStep_of_device hmr0 ha (memRead2_of_first_device h)
  · exact serviceStep_of_device hmr0 ha (memRead2_of_second_device hlo hhi)
  · obtain ⟨hlow, hhigh⟩ := dacWord_unused_bits v
    exact ⟨hlow, hhigh, serviceStep_more hmr0 ha hread, serviceStep_last hmr0 ha hread⟩

/-! ### A whole stream (R212) -/

/-- s once PLAY and k services have played samples 0 to k - 1 of `buf`, and the stream goes on. -/
def streamAt (s : State) (buf : Nat → Half) (k : Nat) : State :=
  { streamStarted s with
    audPtr := s.audPtr + BitVec.ofNat 32 (2 * k)
    audCnt := BitVec.ofNat 32 (s.audCnt.toNat - k)
    dacData := if k = 0 then s.dacData else dacWord (buf (k - 1))
    dacHist := s.dacHist ++ (List.range k).map fun i => dacWord (buf i)
    audReads := s.audReads ++ (List.range k).map fun i => s.audPtr + BitVec.ofNat 32 (2 * i) }

theorem streamAt_zero (s : State) (buf : Nat → Half) : streamAt s buf 0 = streamStarted s := by
  simp [streamAt, streamStarted]

theorem streamRun_snoc {n : Nat} {s u v : State} (hrun : streamRun n s = .next u) (hround : serviceStep (tick u) = .next v) :
    streamRun (n + 1) s = .next v := by
  induction n generalizing s with
  | zero =>
    obtain rfl : s = u := by simpa [streamRun] using hrun
    simp [streamRun, hround]
  | succ n ih =>
    cases hfirst : serviceStep (tick s) with
    | next t =>
      have hrest : streamRun n t = .next u := by simpa [streamRun, hfirst] using hrun
      simpa [streamRun, hfirst] using ih hrest
    | fault r => simp [streamRun, hfirst] at hrun
    | refused r => simp [streamRun, hfirst] at hrun

section

variable {s : State} {buf : Nat → Half}
  (hbuf : ∀ k, k < s.audCnt.toNat → memRead2 s (s.audPtr + BitVec.ofNat 32 (2 * k)) = .value (buf k))
include hbuf

/-- The service of sample k reads it where R212 has it. -/
theorem memRead2_streamAt {k : Nat} (hk : k < s.audCnt.toNat) :
    memRead2 (tick (streamAt s buf k)) (tick (streamAt s buf k)).audPtr = .value (buf k) :=
  (memRead2_congr (s := s) rfl rfl _).trans (hbuf k hk)

/-- A service with more than one sample left moves on to the next. -/
theorem serviceStep_streamAt {k : Nat} (hk : k + 1 < s.audCnt.toNat) :
    serviceStep (tick (streamAt s buf k)) = .next (streamAt s buf (k + 1)) := by
  have hmore : BitVec.ofNat 32 (s.audCnt.toNat - k) ≠ 1 := by bv_omega
  have hcnt : BitVec.ofNat 32 (s.audCnt.toNat - k) - 1#32 = BitVec.ofNat 32 (s.audCnt.toNat - (k + 1)) := by bv_omega
  have hptr : s.audPtr + BitVec.ofNat 32 (2 * k) + 2#32 = s.audPtr + BitVec.ofNat 32 (2 * (k + 1)) := by
    rw [BitVec.add_assoc, Nat.mul_succ, BitVec.ofNat_add]
  rw [serviceStep_more rfl rfl (memRead2_streamAt hbuf (by omega)) hmore]
  simp [servedMore, streamAt, streamStarted, hcnt, hptr, List.range_succ]

theorem streamRun_streamStarted {k : Nat} (hk : k < s.audCnt.toNat) :
    streamRun k (streamStarted s) = .next (streamAt s buf k) := by
  induction k with
  | zero => rw [streamAt_zero]; rfl
  | succ k ih => exact streamRun_snoc (ih (by omega)) (serviceStep_streamAt hbuf hk)

/-- The service of the last sample completes the stream (R211). -/
theorem serviceStep_streamAt_last {k : Nat} (hk : s.audCnt.toNat = k + 1) :
    serviceStep (tick (streamAt s buf k)) = .next
      { streamAt s buf (k + 1) with audState := .armed, done := true, audPtr := 0, audCnt := 0 } := by
  have hlast : BitVec.ofNat 32 (s.audCnt.toNat - k) = 1 := by rw [hk, Nat.add_sub_cancel_left]; rfl
  rw [serviceStep_last rfl rfl (memRead2_streamAt hbuf (by omega)) hlast]
  simp [servedLast, streamAt, streamStarted, List.range_succ]

end

/-- Settles O32: PLAY passes its checks, all services but the last move the stream on by one sample, and the last completes
it. -/
theorem streamPlaysEverySample : Obligations.StreamPlaysEverySample := by
  rintro s N buf ha rfl hpos hptr hbuf
  have hcnt : s.audCnt ≠ 0 := fun h => by simp [h] at hpos
  obtain ⟨n, hn⟩ : ∃ n, s.audCnt.toNat = n + 1 := ⟨s.audCnt.toNat - 1, by omega⟩
  refine ⟨streamStarted s, exec_play_of_checked ha hcnt hptr, fun k hk => ?_, ?_⟩
  · exact ⟨streamAt s buf k, streamRun_streamStarted hbuf hk, rfl, rfl⟩
  · have hall := streamRun_snoc (streamRun_streamStarted hbuf (by omega)) (serviceStep_streamAt_last hbuf hn)
    rw [hn]
    exact hall

end Sys2Proof.Proofs
end


section
/-! The audio state and DACEN (43_audio.md R200, R206, R208, R214): the moves of R200's table, and for each agent the moves it
can make. -/

namespace Sys2Proof.Proofs

open Sys2Proof.Machine

/-- The moves of R200's table the host can make: ARM, PLAY and STOP, or none. -/
inductive HostMove : AudState → AudState → Prop
  | stay (a : AudState) : HostMove a a
  | arm : HostMove .idle .armed
  | play : HostMove .armed .streaming
  | stop : HostMove .streaming .armed

/-- From `s` to `t` the audio state makes a move of the host's, and DACEN stays set. -/
def HostMoves (s t : State) : Prop := HostMove s.audState t.audState ∧ (s.dacEn = true → t.dacEn = true)

/-- From `s` to `t` neither the audio state nor DACEN changes. -/
def ModeKept (s t : State) : Prop := t.audState = s.audState ∧ t.dacEn = s.dacEn

theorem ModeKept.hostMoves {s t : State} (h : ModeKept s t) : HostMoves s t := by
  obtain ⟨hstate, hdac⟩ := h
  rw [HostMoves, hstate, hdac]
  exact ⟨.stay _, id⟩

theorem modeKept_recordGfx (e : GfxError) (s : State) : ModeKept s (recordGfx e s) :=
  ⟨recordGfx_audState e s, recordGfx_dacEn e s⟩

theorem modeKept_recordAud (e : AudError) (s : State) : ModeKept s (recordAud e s) :=
  ⟨recordAud_audState e s, recordAud_dacEn e s⟩

theorem modeKept_raiseGfx (e : GfxError) (s : State) : ModeKept s (raiseGfx e s) :=
  ⟨raiseGfx_audState e s, raiseGfx_dacEn e s⟩

theorem modeKept_frameOut (f : Frame) (s : State) : ModeKept s (frameOut f s) :=
  ⟨frameOut_audState f s, frameOut_dacEn f s⟩

/-- ARM, PLAY and STOP are the moves; every other instruction, and a refused one, keeps the mode (R205). -/
theorem exec_hostMoves {i : Instr} {s t : State} (h : exec i s = .next t) : HostMoves s t := by
  rcases exec_cases h with
    rfl | rfl | ⟨-, rfl | ⟨c, rfl⟩ | rfl⟩ | ⟨e, rfl⟩ | ⟨ha, rfl⟩ | ⟨ha, -, -, rfl⟩ | ⟨ha, rfl⟩
  · exact ModeKept.hostMoves ⟨rfl, rfl⟩
  · exact (modeKept_recordGfx .busy s).hostMoves
  · exact ModeKept.hostMoves ⟨rfl, rfl⟩
  · exact ModeKept.hostMoves ⟨rfl, rfl⟩
  · exact ModeKept.hostMoves (modeKept_raiseGfx .illegal _)
  · exact (modeKept_recordAud e s).hostMoves
  · refine ⟨?_, fun _ => rfl⟩
    cases hs : s.audState
    case idle => exact .arm
    case armed => exact .stay .armed
    case streaming => exact absurd hs ha
  · exact ⟨ha ▸ .play, id⟩
  · exact ⟨ha ▸ .stop, id⟩

/-- A register write moves the mode where it runs an instruction (R108, R110). -/
theorem writeReg_hostMoves {r : Reg} {v : Word} {s t : State} (h : writeReg r v s = .next t) : HostMoves s t := by
  rcases writeReg_cases h with rfl | rfl | rfl | rfl | rfl | ⟨-, hgfx⟩ | ⟨-, haud⟩ | hctrl
  · exact ModeKept.hostMoves ⟨rfl, rfl⟩
  · exact (modeKept_recordGfx .busy s).hostMoves
  · exact (modeKept_recordAud .busy s).hostMoves
  · rw [writeGfxStatus_eq]
    exact ModeKept.hostMoves ⟨rfl, rfl⟩
  · exact ModeKept.hostMoves ⟨rfl, rfl⟩
  · rcases hgfx with rfl | rfl | rfl | rfl | rfl | rfl | rfl | hexec
    case inr.inr.inr.inr.inr.inr.inr => exact (exec_hostMoves hexec :)
    all_goals exact ModeKept.hostMoves ⟨rfl, rfl⟩
  · rcases haud with rfl | rfl | rfl | rfl | rfl <;> exact ModeKept.hostMoves ⟨rfl, rfl⟩
  · exact exec_hostMoves hctrl

theorem hostStep_hostMoves {s t : State} (h : hostStep s = .next t) : HostMoves s t := by
  obtain ⟨rest, ⟨r, v, hwrite⟩ | ⟨reads, rfl⟩ | ⟨ht, -⟩⟩ := hostStep_cases h
  · exact (writeReg_hostMoves hwrite :)
  · exact ModeKept.hostMoves ⟨rfl, rfl⟩
  · rw [ht]
    exact ModeKept.hostMoves ⟨rfl, rfl⟩

theorem rasterStep_modeKept {s t : State} (h : rasterStep s = .next t) : ModeKept s t := by
  rcases rasterStep_cases h with rfl | ⟨-, ⟨f, fs, c, rfl⟩ | ⟨c, rfl⟩ | ⟨a, b, c, -, rfl⟩ | rfl | ⟨e, rfl⟩⟩
  case inr.inl => exact modeKept_frameOut f _
  case inr.inr.inr.inr.inr => exact modeKept_raiseGfx e s
  all_goals exact ⟨rfl, rfl⟩

theorem timerCycle_modeKept (s : State) : ModeKept s (timerCycle s) := by
  rcases timerCycle_cases s with ⟨-, ht⟩ | ⟨-, ⟨-, -, ht⟩ | ⟨-, -, ht⟩ | ⟨-, ht⟩⟩ <;> rw [ht] <;> exact ⟨rfl, rfl⟩

/-- The service completes a stream, or keeps the mode (R211). -/
theorem serviceStep_mode {s t : State} (h : serviceStep s = .next t) :
    ModeKept s t ∨ s.audState = .streaming ∧ t.audState = .armed ∧ t.dacEn = s.dacEn := by
  rcases serviceStep_cases h with rfl | ⟨-, ha, sample, -, ⟨-, rfl⟩ | ⟨-, rfl⟩⟩
  · exact .inl ⟨rfl, rfl⟩
  · exact .inl ⟨rfl, rfl⟩
  · exact .inr ⟨ha, rfl, rfl⟩

/-- Settles O34: using up a turn is no move, and each agent makes its own moves of the table. -/
theorem audioStateMovesAsTabled : Obligations.AudioStateMovesAsTabled := by
  intro s t h
  rw [step] at h
  cases hturn : nextTurn s <;> rw [hturn] at h
  case host =>
    obtain ⟨hmove, hdac⟩ : HostMoves s t := hostStep_hostMoves (s := tookTurn s) h
    refine ⟨?_, fun hen _ => hdac hen⟩
    generalize s.audState = a, t.audState = b at hmove
    cases hmove <;> simp
  case raster =>
    obtain ⟨hstate, hdac⟩ : ModeKept s t := rasterStep_modeKept (s := tookTurn s) h
    exact ⟨.inl hstate, fun hen _ => hdac.trans hen⟩
  case timer =>
    cases h
    obtain ⟨hstate, hdac⟩ : ModeKept s (timerCycle (tookTurn s)) := timerCycle_modeKept (tookTurn s)
    exact ⟨.inl hstate, fun hen _ => hdac.trans hen⟩
  case service =>
    rcases serviceStep_mode (s := tookTurn s) h with ⟨hstate, hdac⟩ | ⟨hfrom, hto, hdac⟩
    · exact ⟨.inl hstate, fun hen _ => hdac.trans hen⟩
    · exact ⟨.inr (.inr (.inr (.inl ⟨.inr rfl, hfrom, hto⟩))), fun hen _ => hdac.trans hen⟩
  case reset =>
    cases h
    exact ⟨.inr (.inr (.inr (.inr ⟨rfl, rfl⟩))), fun _ hne => absurd rfl hne⟩

end Sys2Proof.Proofs
end


section
/-! The steps of the two units side by side (00_scope.md R14, 60_exceptions.md R236, R240, 70_reset_and_hazards.md R278): what
a raster step and a step of the timer or the service each write, that neither reads what the other writes, and what every
agent leaves of a command whose read is not backed. -/

namespace Sys2Proof.Proofs

open Sys2Proof.Machine

/-! ### What each engine's step writes -/

/-- s with the fields that a step of the timer or the service writes as u has them (R201, R210, R211). -/
def withStream (u s : State) : State :=
  { s with
    audState := u.audState
    done := u.done
    audPtr := u.audPtr
    audCnt := u.audCnt
    tmrTc := u.tmrTc
    tmrPc := u.tmrPc
    mr0 := u.mr0
    dacData := u.dacData
    dacHist := u.dacHist
    audReads := u.audReads }

/-- s with the audio error record and the fields that a raster step writes as t has them: no step of the timer or the
service reads or writes any of them. -/
def withOffStream (t s : State) : State :=
  { s with
    gfxErr := t.gfxErr
    fBusy := t.fBusy
    csN := t.csN
    inFlight := t.inFlight
    rxWord := t.rxWord
    seq := t.seq
    frames := t.frames
    gfxReads := t.gfxReads
    audErr := t.audErr }

theorem withOffStream_withStream (t u s : State) :
    withOffStream t (withStream u s) = withStream u (withOffStream t s) := rfl

theorem rasterStep_eq_withOffStream {s t : State} (h : rasterStep s = .next t) : t = withOffStream t s := by
  rcases rasterStep_cases h with rfl | ⟨-, ⟨f, fs, c, rfl⟩ | ⟨c, rfl⟩ | ⟨a, b, c, -, rfl⟩ | rfl | ⟨e, rfl⟩⟩
  case inr.inr.inr.inr.inr => rw [raiseGfx_eq]; rfl
  all_goals rfl

theorem timerCycle_eq_withStream (s : State) : timerCycle s = withStream (timerCycle s) s := by
  rcases timerCycle_cases s with ⟨-, ht⟩ | ⟨-, ⟨-, -, ht⟩ | ⟨-, -, ht⟩ | ⟨-, ht⟩⟩ <;> rw [ht] <;> rfl

theorem serviceStep_eq_withStream {s u : State} (h : serviceStep s = .next u) : u = withStream u s := by
  rcases serviceStep_cases h with rfl | ⟨-, -, sample, -, ⟨-, rfl⟩ | ⟨-, rfl⟩⟩ <;> rfl

theorem audioStep_eq_withStream {a : Turn} (ha : a = .timer ∨ a = .service) {s u : State} (h : turnStep a s = .next u) :
    u = withStream u s := by
  rcases ha with rfl | rfl
  · cases h
    exact timerCycle_eq_withStream s
  · exact serviceStep_eq_withStream h

/-! ### Neither engine reads what the other writes -/

theorem emitGroup_withStream (out : List Frame) (c : Ctl) (u s : State) :
    emitGroup out c (withStream u s) = withStream u (emitGroup out c s) := by
  cases out with
  | nil => rfl
  | cons f fs =>
    rw [emitGroup_cons, emitGroup_cons, frameOut_eq, frameOut_eq]
    rfl

theorem raiseGfx_withStream (e : GfxError) (u s : State) :
    raiseGfx e (withStream u s) = withStream u (raiseGfx e s) := by
  rw [raiseGfx_eq, raiseGfx_eq]
  rfl

theorem takeAct_withStream {act : Act} {s t : State} (h : takeAct act s = .next t) (u : State) :
    takeAct act (withStream u s) = .next (withStream u t) := by
  cases act with
  | emit out c =>
    obtain rfl : emitGroup out c s = t := Host.Outcome.next.inj h
    exact congrArg _ (emitGroup_withStream out c u s)
  | read a k =>
    have hread : memRead1 (withStream u s) a = memRead1 s a := memRead1_congr rfl rfl a
    rw [takeAct] at h ⊢
    rw [hread]
    cases hm : memRead1 s a <;> rw [hm] at h <;> cases h <;> rfl
  | finish =>
    cases h
    rfl
  | fail e =>
    obtain rfl : raiseGfx e s = t := Host.Outcome.next.inj h
    exact congrArg _ (raiseGfx_withStream e u s)

/-- A raster step does the same whatever the stream's fields hold (R247). -/
theorem rasterStep_withStream {s t : State} (h : rasterStep s = .next t) (u : State) :
    rasterStep (withStream u s) = .next (withStream u t) := by
  cases hseq : s.seq with
  | idle =>
    rw [rasterStep_of_idle hseq] at h
    cases h
    exact rasterStep_of_idle hseq
  | running fs c =>
    cases fs with
    | cons f fs =>
      rw [rasterStep_of_group hseq] at h
      obtain rfl := Host.Outcome.next.inj h
      exact (rasterStep_of_group (s := withStream u s) hseq).trans (congrArg _ (emitGroup_withStream (f :: fs) c u s))
    | nil =>
      have hact : nextAct c (withStream u s) = nextAct c s := nextAct_congr rfl rfl rfl rfl rfl c
      rw [rasterStep_of_body hseq] at h
      rw [rasterStep_of_body (s := withStream u s) hseq, hact]
      exact takeAct_withStream h u

theorem timerCycle_withOffStream (t s : State) :
    timerCycle (withOffStream t s) = withOffStream t (timerCycle s) := by
  by_cases hs : s.audState = .streaming
  · have hs' : (withOffStream t s).audState = .streaming := hs
    rw [timerCycle_of_streaming hs, timerCycle_of_streaming hs', apply_ite (withOffStream t), apply_ite (withOffStream t)]
    rfl
  · have hs' : (withOffStream t s).audState ≠ .streaming := hs
    rw [timerCycle_of_stopped hs, timerCycle_of_stopped hs']

theorem playSample_withOffStream (sample : Half) (t s : State) :
    playSample sample (withOffStream t s) = withOffStream t (playSample sample s) := by
  by_cases hcnt : s.audCnt - 1 = 0
  · rw [playSample_last hcnt, playSample_last (s := withOffStream t s) hcnt]
    rfl
  · rw [playSample_more hcnt, playSample_more (s := withOffStream t s) hcnt]
    rfl

theorem serviceStep_withOffStream {s u : State} (h : serviceStep s = .next u) (t : State) :
    serviceStep (withOffStream t s) = .next (withOffStream t u) := by
  by_cases hon : s.mr0 = true ∧ s.audState = .streaming
  · obtain ⟨hmr0, ha⟩ := hon
    have hread : memRead2 (withOffStream t s) s.audPtr = memRead2 s s.audPtr := memRead2_congr rfl rfl _
    cases hm : memRead2 s s.audPtr with
    | value sample =>
      rw [serviceStep_of_value hmr0 ha hm] at h
      obtain rfl := Host.Outcome.next.inj h
      rw [serviceStep_of_value (s := withOffStream t s) hmr0 ha (hread.trans hm), playSample_withOffStream]
    | stuck =>
      rw [serviceStep_of_stuck hmr0 ha hm] at h
      obtain rfl := Host.Outcome.next.inj h
      exact serviceStep_of_stuck (s := withOffStream t s) hmr0 ha (hread.trans hm)
    | device d =>
      rw [serviceStep_of_device hmr0 ha hm] at h
      cases h
  · have hoff : s.mr0 = false ∨ s.audState ≠ .streaming := by
      rwa [Decidable.not_and_iff_not_or_not, Bool.not_eq_true] at hon
    rw [serviceStep_of_disabled hoff] at h
    obtain rfl := Host.Outcome.next.inj h
    exact serviceStep_of_disabled (s := withOffStream t s) hoff

/-- The timer and the service do the same whatever the raster unit and the error records hold (R247). -/
theorem audioStep_withOffStream {a : Turn} (ha : a = .timer ∨ a = .service) {s u : State} (h : turnStep a s = .next u)
    (t : State) : turnStep a (withOffStream t s) = .next (withOffStream t u) := by
  rcases ha with rfl | rfl
  · cases h
    exact congrArg _ (timerCycle_withOffStream t s)
  · exact serviceStep_withOffStream h t

theorem rasterStep_audioStep_commute {a : Turn} (ha : a = .timer ∨ a = .service) {s t u : State}
    (hraster : rasterStep s = .next t) (haudio : turnStep a s = .next u) :
    turnStep a t = .next (withOffStream t u) ∧ rasterStep u = .next (withOffStream t u) := by
  have ht := rasterStep_eq_withOffStream hraster
  have hu := audioStep_eq_withStream ha haudio
  have hboth : withStream u t = withOffStream t u :=
    calc withStream u t = withStream u (withOffStream t s) := congrArg _ ht
      _ = withOffStream t (withStream u s) := (withOffStream_withStream t u s).symm
      _ = withOffStream t u := congrArg _ hu.symm
  have hafterRaster := audioStep_withOffStream ha haudio t
  have hafterAudio := rasterStep_withStream hraster u
  rw [← ht] at hafterRaster
  rw [← hu, hboth] at hafterAudio
  exact ⟨hafterRaster, hafterAudio⟩

/-! ### The service against STOP and PLAY (R240) -/

theorem playSample_dacHist (sample : Half) (s : State) : (playSample sample s).dacHist = s.dacHist ++ [dacWord sample] := by
  by_cases hcnt : s.audCnt - 1 = 0
  · rw [playSample_last hcnt]
    rfl
  · rw [playSample_more hcnt]
    rfl

theorem exec_stop_of_streaming {s : State} (h : s.audState = .streaming) :
    exec .stop s = .next { s with audState := .armed, tmrTc := 0, tmrPc := 0, mr0 := false } := if_pos h

theorem exec_stop_of_stopped {s : State} (h : s.audState ≠ .streaming) : exec .stop s = .next s := if_neg h

/-- STOP after a service: from Streaming it stops the timer, and after the last sample there is nothing left to stop
(R208, R211). -/
theorem exec_stop_of_served {s u : State} (ha : s.audState = .streaming) (h : serviceStep s = .next u) :
    exec .stop u = .next { u with audState := .armed, tmrTc := 0, tmrPc := 0, mr0 := false } := by
  rcases serviceStep_cases h with rfl | ⟨-, -, sample, -, ⟨-, rfl⟩ | ⟨-, rfl⟩⟩
  · exact exec_stop_of_streaming ha
  · exact exec_stop_of_streaming ha
  · have hstopped : (servedLast sample s).audState ≠ .streaming := fun h => AudState.noConfusion h
    exact exec_stop_of_stopped hstopped

/-- A service that plays with one sample left plays the last one. -/
theorem servedLast_of_one_left {s u : State} (hmr0 : s.mr0 = true) (hcnt : s.audCnt = 1) (h : serviceStep s = .next u)
    (hserved : u.mr0 = false) : ∃ sample, u = servedLast sample s := by
  rcases serviceStep_cases h with rfl | ⟨-, -, sample, -, ⟨hmore, -⟩ | ⟨-, hu⟩⟩
  · simp [hmr0] at hserved
  · exact absurd (sub_eq_zero.2 hcnt) hmore
  · exact ⟨sample, hu⟩

/-- Settles O48: the engines' steps write disjoint fields and read none of the other's; STOP and PLAY are placed before the
service and after it. -/
theorem engineStepsCommute : Obligations.EngineStepsCommute := by
  refine ⟨fun a s t u ha ht hu => ⟨_, rasterStep_audioStep_commute ha ht hu⟩, fun s ha hmr0 => ?_⟩
  refine ⟨?stopFirst, fun u hu => ⟨fun sample hread => ?history, exec_stop_of_served ha hu⟩, ?playFirst,
    fun u hcnt hu hserved => ?playLater⟩
  case stopFirst => exact ⟨_, exec_stop_of_streaming ha, rfl, rfl, rfl, serviceStep_of_disabled (.inl rfl)⟩
  case history =>
    rw [serviceStep_of_value hmr0 ha hread] at hu
    cases hu
    exact playSample_dacHist sample s
  case playFirst =>
    refine ⟨_, exec_play_of_streaming ha, recordAud_eq .busy s, fun u hu => ?_⟩
    have hservice := serviceStep_withOffStream hu (recordAud .busy s)
    rw [serviceStep_eq_withStream hu, recordAud_eq] at hservice ⊢
    exact hservice
  case playLater =>
    obtain ⟨sample, rfl⟩ := servedLast_of_one_left hmr0 hcnt hu hserved
    refine ⟨rfl, ?_, fun p n hp hn => exec_play_of_checked rfl hn hp⟩
    rw [exec_play_of_zero_count rfl (sub_eq_zero.2 hcnt), recordAud_eq]

/-! ### A command whose read is not backed (R236) -/

/-- A running command as it waits for its next step: where it stands, the registers and the platform it reads from, and the
frames it has put out (R49, R104). -/
structure CommandView where
  seq : Seq
  opc : BitVec 24
  strPtr : Word
  font0 : Word
  font1 : Word
  font2 : Word
  platform : Platform
  frames : List Frame

def commandView (s : State) : CommandView where
  seq := s.seq
  opc := s.gfxOpc
  strPtr := s.strPtr
  font0 := s.font0
  font1 := s.font1
  font2 := s.font2
  platform := s.platform
  frames := s.frames

theorem commandView_eq_iff (s t : State) : commandView t = commandView s ↔
    t.seq = s.seq ∧ t.gfxOpc = s.gfxOpc ∧ t.strPtr = s.strPtr ∧ t.font0 = s.font0 ∧ t.font1 = s.font1 ∧
      t.font2 = s.font2 ∧ t.platform = s.platform ∧ t.frames = s.frames := by
  simp [commandView]

theorem commandView_recordGfx (e : GfxError) (s : State) : commandView (recordGfx e s) = commandView s := by
  rw [recordGfx_eq]
  rfl

theorem commandView_recordAud (e : AudError) (s : State) : commandView (recordAud e s) = commandView s := by
  rw [recordAud_eq]
  rfl

/-- While BUSY = 1 no instruction touches the running command: a launch is refused (R31, R108). -/
theorem exec_keeps_commandView {i : Instr} {s t : State} (hbusy : gfxBusy s = true) (h : exec i s = .next t) :
    commandView t = commandView s := by
  rcases exec_cases h with rfl | rfl | ⟨hidle, -⟩ | ⟨e, rfl⟩ | ⟨-, rfl⟩ | ⟨-, -, -, rfl⟩ | ⟨-, rfl⟩
  · rfl
  · exact commandView_recordGfx .busy s
  · simp [hbusy] at hidle
  · exact commandView_recordAud e s
  · rfl
  · rfl
  · rfl

/-- While BUSY = 1 the registers a command reads are frozen (R31). -/
theorem writeReg_keeps_commandView {r : Reg} {v : Word} {s t : State} (hbusy : gfxBusy s = true)
    (h : writeReg r v s = .next t) : commandView t = commandView s := by
  rcases writeReg_cases h with rfl | rfl | rfl | rfl | rfl | ⟨hidle, -⟩ | ⟨-, haud⟩ | hctrl
  · rfl
  · exact commandView_recordGfx .busy s
  · exact commandView_recordAud .busy s
  · rw [writeGfxStatus_eq]
    rfl
  · rfl
  · simp [hbusy] at hidle
  · rcases haud with rfl | rfl | rfl | rfl | rfl <;> rfl
  · exact exec_keeps_commandView hbusy hctrl

theorem hostStep_keeps_commandView {s t : State} (hbusy : gfxBusy s = true) (h : hostStep s = .next t) :
    commandView t = commandView s := by
  obtain ⟨rest, ⟨r, v, hwrite⟩ | ⟨reads, rfl⟩ | ⟨ht, -⟩⟩ := hostStep_cases h
  · exact writeReg_keeps_commandView (s := { s with host := rest }) hbusy hwrite
  · rfl
  · rw [ht]
    rfl

theorem audioStep_keeps_commandView {a : Turn} (ha : a = .timer ∨ a = .service) {s u : State}
    (h : turnStep a s = .next u) : commandView u = commandView s := by
  rw [audioStep_eq_withStream ha h]
  rfl

theorem memRead1_of_unbacked {s : State} {a : Word} (h : addrKind s.platform a = .unbacked) : memRead1 s a = .stuck := by
  rw [memRead1, h]

theorem rasterStep_of_unbacked_read {s : State} {c : Ctl} {a : Word} {k : Byte → Ctl} (hseq : s.seq = .running [] c)
    (hact : nextAct c s = .read a k) (h : addrKind s.platform a = .unbacked) : rasterStep s = .next s := by
  rw [rasterStep_of_body hseq, hact, takeAct, memRead1_of_unbacked h]

/-- Every agent but reset leaves a stuck command as it stands: the sequencer has no step, and BUSY = 1 keeps the host out
(R31, R236). -/
theorem turnStep_keeps_stuck_command {turn : Turn} {s t : State} {c : Ctl} {a : Word} {k : Byte → Ctl}
    (hseq : s.seq = .running [] c) (hact : nextAct c s = .read a k) (haddr : addrKind s.platform a = .unbacked)
    (hreset : turn ≠ .reset) (h : turnStep turn s = .next t) : commandView t = commandView s := by
  cases turn with
  | host =>
    have hbusy : gfxBusy s = true := (gfxBusy_eq_true_iff s).2 (by simp [hseq])
    exact hostStep_keeps_commandView hbusy h
  | raster =>
    obtain rfl := Host.Outcome.next.inj ((rasterStep_of_unbacked_read hseq hact haddr).symm.trans h)
    rfl
  | timer => exact audioStep_keeps_commandView (.inl rfl) h
  | service => exact audioStep_keeps_commandView (.inr rfl) h
  | reset => exact absurd rfl hreset

/-- Settles O51: what a stuck command's next action depends on is kept, so it is the same read. -/
theorem stuckCommandStaysUntilReset : Obligations.StuckCommandStaysUntilReset := by
  intro s t c a k hseq hact haddr h hreset
  have hturn : nextAct c (tookTurn s) = .read a k := (nextAct_congr rfl rfl rfl rfl rfl c).trans hact
  have hkept : commandView t = commandView s := turnStep_keeps_stuck_command (s := tookTurn s) hseq hturn haddr hreset h
  obtain ⟨hseq', hopc, hstr, h0, h1, h2, hplatform, hframes⟩ := (commandView_eq_iff s t).1 hkept
  exact ⟨hseq', (nextAct_congr hopc hstr h0 h1 h2 c).trans hact, hplatform ▸ haddr, hframes⟩

end Sys2Proof.Proofs
end

section
/-! The error records (60_exceptions.md R231, R280): the first error is kept, and only the host's writes and reset clear
it. -/

namespace Sys2Proof.Proofs

open Sys2Proof.Machine

/-! ### One record (R231) -/

theorem recordGfx_of_empty {s : State} (h : s.gfxErr = none) (e : GfxError) :
    recordGfx e s = { s with gfxErr := some e } := by
  rw [recordGfx_eq, h]
  rfl

theorem recordGfx_of_recorded {s : State} (h : s.gfxErr ≠ none) (e : GfxError) : recordGfx e s = s := by
  obtain ⟨e', he'⟩ := Option.ne_none_iff_exists'.1 h
  simp only [recordGfx, he']

theorem recordAud_of_empty {s : State} (h : s.audErr = none) (e : AudError) :
    recordAud e s = { s with audErr := some e } := by
  rw [recordAud_eq, h]
  rfl

theorem recordAud_of_recorded {s : State} (h : s.audErr ≠ none) (e : AudError) : recordAud e s = s := by
  obtain ⟨e', he'⟩ := Option.ne_none_iff_exists'.1 h
  simp only [recordAud, he']

/-- Settles O45: the two cases of each record, and the status writes with the one bit set that clears it. -/
theorem firstErrorIsKept : Obligations.FirstErrorIsKept := by
  intro s e f
  obtain ⟨hclearGfx, -⟩ := statusWritesClear s 2
  obtain ⟨-, hclearAud⟩ := statusWritesClear s 8
  exact ⟨(recordGfx_of_empty · e), (recordGfx_of_recorded · e), (recordAud_of_empty · f), (recordAud_of_recorded · f),
    rfl, rfl, hclearGfx, hclearAud⟩

/-! ### Recorded errors (R231, R280) -/

/-- From s to t no recorded error is lost. -/
def KeepsErrors (s t : State) : Prop :=
  (s.gfxErr ≠ none → t.gfxErr = s.gfxErr) ∧ (s.audErr ≠ none → t.audErr = s.audErr)

theorem KeepsErrors.of_eq {s t : State} (hgfx : t.gfxErr = s.gfxErr) (haud : t.audErr = s.audErr) : KeepsErrors s t :=
  ⟨fun _ => hgfx, fun _ => haud⟩

theorem keepsErrors_recordGfx (e : GfxError) (s : State) : KeepsErrors s (recordGfx e s) :=
  ⟨fun h => congrArg State.gfxErr (recordGfx_of_recorded h e), fun _ => recordGfx_audErr e s⟩

theorem keepsErrors_raiseGfx (e : GfxError) (s : State) : KeepsErrors s (raiseGfx e s) :=
  keepsErrors_recordGfx e { s with seq := .idle }

theorem keepsErrors_recordAud (e : AudError) (s : State) : KeepsErrors s (recordAud e s) :=
  ⟨fun _ => recordAud_gfxErr e s, fun h => congrArg State.audErr (recordAud_of_recorded h e)⟩

theorem exec_keepsErrors {i : Instr} {s t : State} (h : exec i s = .next t) : KeepsErrors s t := by
  rcases exec_cases h with rfl | rfl | ⟨-, rfl | ⟨c, rfl⟩ | rfl⟩ | ⟨e, rfl⟩ | ⟨-, rfl⟩ | ⟨-, -, -, rfl⟩ | ⟨-, rfl⟩
  · exact .of_eq rfl rfl
  · exact keepsErrors_recordGfx .busy s
  · exact .of_eq rfl rfl
  · exact .of_eq rfl rfl
  · exact keepsErrors_raiseGfx .illegal { s with latched := s.cmdHi ++ s.cmdLo }
  · exact keepsErrors_recordAud e s
  · exact .of_eq rfl rfl
  · exact .of_eq rfl rfl
  · exact .of_eq rfl rfl

/-- The sequencer can raise an error of its own unit, and that only where none is recorded (R231, R234). -/
theorem rasterStep_errors {s t : State} (h : rasterStep s = .next t) :
    (s.gfxErr ≠ none → t.gfxErr = s.gfxErr) ∧ t.audErr = s.audErr := by
  rcases rasterStep_cases h with rfl | ⟨-, ⟨f, fs, c, rfl⟩ | ⟨c, rfl⟩ | ⟨a, b, c, -, rfl⟩ | rfl | ⟨e, rfl⟩⟩
  · exact ⟨fun _ => rfl, rfl⟩
  · rw [frameOut_eq]
    exact ⟨fun _ => rfl, rfl⟩
  · exact ⟨fun _ => rfl, rfl⟩
  · exact ⟨fun _ => rfl, rfl⟩
  · exact ⟨fun _ => rfl, rfl⟩
  · exact ⟨(keepsErrors_raiseGfx e s).left, raiseGfx_audErr e s⟩

theorem audioStep_keeps_errors {a : Turn} (ha : a = .timer ∨ a = .service) {s u : State} (h : turnStep a s = .next u) :
    u.gfxErr = s.gfxErr ∧ u.audErr = s.audErr := by
  rw [audioStep_eq_withStream ha h]
  exact ⟨rfl, rfl⟩

/-- Settles O50: instructions and raised errors only record, and the timer and the service touch no record. -/
theorem recordedErrorsStay : Obligations.RecordedErrorsStay := by
  refine ⟨fun i s t => exec_keepsErrors, fun s t h hhost hreset => ?_⟩
  rw [step] at h
  cases hturn : nextTurn s <;> rw [hturn] at h
  case host => exact absurd hturn hhost
  case raster => exact rasterStep_errors (s := tookTurn s) h
  case timer =>
    obtain ⟨hgfx, haud⟩ := audioStep_keeps_errors (.inl rfl) h
    exact ⟨fun _ => hgfx, haud⟩
  case service =>
    obtain ⟨hgfx, haud⟩ := audioStep_keeps_errors (.inr rfl) h
    exact ⟨fun _ => hgfx, haud⟩
  case reset => exact absurd hturn hreset

end Sys2Proof.Proofs
end


section
/-! Commands refused by one of their own checks (60_exceptions.md R232 to R234): the range checks, DrawGlyph's checks in
R233's order, and the string that one of its characters ends. -/

namespace Sys2Proof.Proofs

open Sys2Proof.Machine Sys2Proof.Safety

/-! ### A command whose pseudocode raises an error -/

/-- Pseudocode that emits no frame runs the same in whatever state the link is: a step for each read, and one to complete or
to raise the error (R14; log 8). -/
theorem Realizes.rasterRun_of_no_frames {s : State} {a : Act} {r : BodyRun} (h : Realizes s a r) (hends : Ends r)
    (hframes : r.frames = []) {c : Ctl} {t : State} (hin : SameInputs s t) (hseq : t.seq = .running [] c)
    (hact : nextAct c s = a) : rasterRun (r.reads.length + 1) t = .next (bodyDone r t) := by
  induction h generalizing c t with
  | finish =>
    have hstep : rasterStep t = .next { t with seq := .idle } := by rw [rasterStep_eq_takeAct hin hseq, hact, takeAct]
    rw [rasterRun_succ hstep]
    simp [rasterRun, bodyDone, refDone, errorAfter]
  | fail e =>
    have hstep : rasterStep t = .next (raiseGfx e t) := by rw [rasterStep_eq_takeAct hin hseq, hact, takeAct]
    rw [rasterRun_succ hstep, raiseGfx_eq]
    simp [rasterRun, bodyDone, refFail, errorAfter_error]
  | emit => simp [refEmit] at hframes
  | @read a k r _ ih =>
    obtain ⟨b, hb⟩ := memRead1_value_of_ends hends
    have hstep : rasterStep t = .next { t with seq := .running [] (k b), gfxReads := t.gfxReads ++ [a] } := by
      rw [rasterStep_eq_takeAct hin hseq, hact, takeAct, hin.memRead1_eq, hb]
    rw [refRead_of_value hb] at hends hframes ⊢
    have hrest := ih b hends hframes (t := { t with seq := .running [] (k b), gfxReads := t.gfxReads ++ [a] }) hin rfl rfl
    rw [List.length_cons, rasterRun_succ hstep, hrest]
    simp [bodyDone]

/-- Pseudocode that makes these reads and raises an error, no frame before it. -/
def refusal (e : GfxError) (as : List Word) : BodyRun := { frames := [], reads := as, result := .error e }

/-- A command whose pseudocode is a refusal ends so, one step after its last read (R234; log 8). -/
theorem command_refused {i : Instr} {c : Ctl} {s : State} {e : GfxError} {as : List Word} (hc : bodyOf i = some c)
    (hbody : refBody i s = refusal e as) : rasterRun (as.length + 1) (launched c s) = .next (refusedWith e as s) := by
  have hin : SameInputs s (launched c s) := ⟨rfl, rfl, rfl, rfl, rfl, rfl, rfl⟩
  have hrealized := refBody_realized hc s
  rw [hbody] at hrealized
  rw [show as = (refusal e as).reads from rfl, hrealized.rasterRun_of_no_frames (.inr ⟨e, rfl⟩) rfl hin rfl rfl,
    bodyDone_launched]
  simp [bodyEffect, refusal, refusedWith, errorAfter_error]

/-- A command whose pseudocode raises an error has made its frames and reads before it (R233, R234). -/
theorem command_refused_after {i : Instr} {c : Ctl} {s : State} {e : GfxError} {fs : List Frame} {as : List Word}
    (hc : bodyOf i = some c) (hbody : refBody i s = { frames := fs, reads := as, result := .error e })
    (hb : gfxBusy s = false) (hidle : LinkIdle s) : ∃ n, rasterRun n (launched c s) = .next (refusedAfter e fs as s) := by
  obtain ⟨-, hrun⟩ := sequencerRefinesThePseudocode i c s hc hb
  rw [hbody] at hrun
  refine ⟨_, (hrun hidle (.inr ⟨e, rfl⟩)).trans ?_⟩
  simp [bodyEffect, refusedAfter, refusedWith, errorAfter_error]

/-! ### The range checks (R232) -/

/-- Settles O20: each body is its range check first, and where the check fails that is all of it. -/
theorem rangeErrorsEmitNothing : Obligations.RangeErrorsEmitNothing := by
  intro s c bg size x y x1 y1 r code _
  refine ⟨fun hout => ?points, fun hout => ?ends, fun hout => ?circle⟩
  case points =>
    have hpanel : ¬ inPanel x y = true := by rw [inPanel_iff]; omega
    exact ⟨command_refused (i := .pixel x y c) rfl (if_neg hpanel),
      command_refused (i := .char x y code size c bg) rfl (if_neg hpanel),
      command_refused (i := .string x y size c bg) rfl (if_neg hpanel)⟩
  case ends =>
    have hpanel : ¬ endsInPanel x y x1 y1 = true := by rw [endsInPanel_iff]; omega
    exact ⟨command_refused (i := .line x y x1 y1 c) rfl (if_neg hpanel),
      command_refused (i := .rect x y x1 y1 c) rfl (if_neg hpanel),
      command_refused (i := .rectf x y x1 y1 c) rfl (if_neg hpanel)⟩
  case circle =>
    have hpanel : ¬ circleInPanel x y r = true := by rw [circleInPanel_iff]; omega
    exact command_refused (i := .circle x y r c) rfl (if_neg hpanel)

/-! ### DrawGlyph's checks (R187, R233) -/

/-- The header's three bytes read as these (R181, R182). -/
structure HeaderReads (s : State) (base : Word) (cols rows stride : Byte) : Prop where
  cols : memRead1 s base = .value cols
  rows : memRead1 s (base + 1) = .value rows
  stride : memRead1 s (base + 2) = .value stride

/-- The first check of DrawGlyph that fails, its error, and the reads made until then (R233). -/
inductive GlyphRefused (s : State) (g : GlyphVars) : GfxError → List Word → Prop where
  | size (hsize : g.size = 3) : GlyphRefused s g .size []
  | code (hsize : g.size ≠ 3) (hcode : g.code < 0x20 ∨ 0x7F < g.code) : GlyphRefused s g .glyph []
  | header {cols rows stride : Byte} (hsize : g.size ≠ 3) (hlow : 0x20 ≤ g.code) (hhigh : g.code ≤ 0x7F)
      (hreads : HeaderReads s (fontBase s g.size) cols rows stride)
      (hheader : cols.toNat ∉ [2, 4, 6, 8] ∨ rows = 0 ∨ stride.toNat < rows.toNat) :
      GlyphRefused s g .glyph [fontBase s g.size, fontBase s g.size + 1, fontBase s g.size + 2]
  | window {cols rows stride : Byte} (hsize : g.size ≠ 3) (hlow : 0x20 ≤ g.code) (hhigh : g.code ≤ 0x7F)
      (hreads : HeaderReads s (fontBase s g.size) cols rows stride)
      (hcols : cols.toNat ∈ [2, 4, 6, 8]) (hrows : rows ≠ 0) (hstride : rows.toNat ≤ stride.toNat)
      (hwindow : 132 < g.x + rows.toNat ∨ 132 < g.y + cols.toNat) :
      GlyphRefused s g .range [fontBase s g.size, fontBase s g.size + 1, fontBase s g.size + 2]

theorem headerValid_bytes_iff (cols rows stride : Byte) :
    headerValid ⟨cols.toNat, rows.toNat, stride.toNat⟩ = true ↔
      cols.toNat ∈ [2, 4, 6, 8] ∧ rows ≠ 0 ∧ rows.toNat ≤ stride.toNat := by
  have hrows : 1 ≤ rows.toNat ↔ rows ≠ 0 := by
    rw [Nat.one_le_iff_ne_zero, ← BitVec.toNat_ne_iff_ne]
    rfl
  simp only [headerValid_iff, hrows, List.mem_cons, List.not_mem_nil, or_false]

theorem headerAddr_one (base : Word) : headerAddr base 1 = base + 1 := rfl

theorem headerAddr_two (base : Word) : headerAddr base 2 = base + 2 := rfl

/-- The checks stand in the pseudocode in this order, so the first that fails is all of it (R187). -/
theorem GlyphRefused.refGlyph_eq {s : State} {g : GlyphVars} {e : GfxError} {as : List Word} (h : GlyphRefused s g e as)
    (after : BodyRun) : refGlyph s g after = refusal e as := by
  cases h with
  | size hsize => exact if_pos hsize
  | code hsize hcode =>
    have hinvalid : ¬ codeValid g.code = true := by rw [codeValid_iff]; omega
    rw [refGlyph, if_neg hsize, if_neg hinvalid]
    rfl
  | @header cols rows stride hsize hlow hhigh hreads hheader =>
    have hinvalid : ¬ headerValid ⟨cols.toNat, rows.toNat, stride.toNat⟩ = true := by
      rw [headerValid_bytes_iff]
      rintro ⟨hcols, hrows, hstride⟩
      rcases hheader with h | h | h
      · exact h hcols
      · exact hrows h
      · omega
    rw [refGlyph, if_neg hsize, if_pos ((codeValid_iff _).2 ⟨hlow, hhigh⟩), headerAddr_zero, headerAddr_one,
      headerAddr_two, refRead_of_value hreads.cols, refRead_of_value hreads.rows, refRead_of_value hreads.stride,
      if_neg hinvalid]
    rfl
  | @window cols rows stride hsize hlow hhigh hreads hcols hrows hstride hwindow =>
    have hvalid := (headerValid_bytes_iff cols rows stride).2 ⟨hcols, hrows, hstride⟩
    have houtside : ¬ glyphInPanel g ⟨cols.toNat, rows.toNat, stride.toNat⟩ = true := by
      simp only [glyphInPanel_iff]
      omega
    rw [refGlyph, if_neg hsize, if_pos ((codeValid_iff _).2 ⟨hlow, hhigh⟩), headerAddr_zero, headerAddr_one,
      headerAddr_two, refRead_of_value hreads.cols, refRead_of_value hreads.rows, refRead_of_value hreads.stride,
      if_pos hvalid, if_neg houtside]
    rfl

/-- The arguments of DrawGlyph for CHAR (R188). -/
def charGlyph (x y code : Nat) (size : BitVec 2) (fg bg : Colour) : GlyphVars :=
  { x := x, y := y, code := code, size := size, fg := fg, bg := bg, index := none }

theorem char_refused {s : State} {x y code : Nat} {size : BitVec 2} {fg bg : Colour} {e : GfxError} {as : List Word}
    (hx : x ≤ 131) (hy : y ≤ 131) (h : GlyphRefused s (charGlyph x y code size fg bg) e as) :
    rasterRun (as.length + 1) (launched (.char x y code size fg bg) s) = .next (refusedWith e as s) := by
  have hpanel : inPanel x y = true := (inPanel_iff x y).2 (by omega)
  exact command_refused (i := .char x y code size fg bg) rfl ((if_pos hpanel).trans (h.refGlyph_eq refDone))

/-! ### A string that a character ends (R193, R233) -/

/-- The j characters from k on, all of them drawn, and then the string loop from the character after them (R192, R193). -/
theorem refGuarded_of_drawn {s : State} {x y m : Nat} {size : BitVec 2} {fg bg : Colour} {ch : Nat → Byte}
    {glyph : Nat → BodyRun} (hchars : ∀ k, k < m → CharDrawn s x y size fg bg k (ch k) (glyph k)) (n j k : Nat)
    (hj : k + j = m) :
    refGuarded s x size fg bg (j + n) (y + k * pitchColumns size : Nat) k =
      refThen
        { frames := (List.range' k j).flatMap fun i => (glyph i).frames
          reads := (List.range' k j).flatMap fun i => stringAddr s i :: (glyph i).reads
          result := .done }
        (refGuarded s x size fg bg n (y + m * pitchColumns size : Nat) m) := by
  induction j generalizing k with
  | zero =>
    obtain rfl : k = m := hj
    rw [Nat.zero_add, refThen_of_done rfl]
    rfl
  | succ j ih =>
    have hk := hchars k (by omega)
    have hcol := hk.column
    rw [refGuarded_of_le (by omega), Nat.add_right_comm, hk.refString_eq, ih (k + 1) (by omega),
      refRead_of_value hk.read, refThen_of_done hk.done, refThen_of_done rfl, refThen_of_done rfl, List.range'_succ]
    simp only [List.flatMap_cons, List.cons_append, List.append_assoc]

/-- The string loop at a character that DrawGlyph refuses: its read, and the refusal (R233). -/
theorem refString_of_refused {s : State} {x y k : Nat} {size : BitVec 2} {fg bg : Colour} {ch : Byte} {e : GfxError}
    {as : List Word} (hread : memRead1 s (stringAddr s k) = .value ch) (hne : ch ≠ 0)
    (h : GlyphRefused s (stringGlyph x y size fg bg k ch) e as) (n : Nat) :
    refString s x size fg bg (n + 1) (y + k * pitchColumns size : Nat) k = refusal e (stringAddr s k :: as) := by
  have hglyph (after : BodyRun) := (refGlyph_index s _ (some k) after).trans (h.refGlyph_eq after)
  rw [refString, refRead_of_value hread, if_neg hne]
  exact congrArg (fun r : BodyRun => { r with reads := stringAddr s k :: r.reads }) (hglyph _)

/-- STRING whose first m characters are drawn and whose character m is refused keeps the frames and reads of the m and ends
with the refusal (R193, R232, R233). -/
theorem string_refused {s : State} {x y m : Nat} {size : BitVec 2} {fg bg : Colour} {ch : Nat → Byte}
    {glyph : Nat → BodyRun} {e : GfxError} {as : List Word} (hb : gfxBusy s = false) (hidle : LinkIdle s) (hx : x ≤ 131)
    (hchars : ∀ k, k < m → CharDrawn s x y size fg bg k (ch k) (glyph k)) (hcol : y + m * pitchColumns size ≤ 131)
    (hread : memRead1 s (stringAddr s m) = .value (ch m)) (hne : ch m ≠ 0)
    (h : GlyphRefused s (stringGlyph x y size fg bg m (ch m)) e as) :
    ∃ n, rasterRun n (launched (.string x y size fg bg) s) = .next
      (refusedAfter e ((List.range m).flatMap fun k => (glyph k).frames)
        (((List.range m).flatMap fun k => stringAddr s k :: (glyph k).reads) ++ [stringAddr s m] ++ as) s) := by
  have hpanel : inPanel x y = true := (inPanel_iff x y).2 (by omega)
  obtain ⟨n, hn⟩ : ∃ n, maxStringChars = m + (n + 1) := by
    have hmul := Nat.mul_le_mul_left m (six_le_pitchColumns size)
    exact ⟨21 - m, by simp only [maxStringChars]; omega⟩
  have hloop := refGuarded_of_drawn hchars (n + 1) m 0 (Nat.zero_add m)
  rw [Nat.zero_mul, Nat.add_zero, refGuarded_of_le (by omega), refGuarded_of_le (by omega),
    refString_of_refused hread hne h, refThen_of_done rfl, ← hn, ← List.range_eq_range'] at hloop
  refine command_refused_after (i := .string x y size fg bg) rfl (((if_pos hpanel).trans hloop).trans ?_) hb hidle
  simp [refusal]

/-- Settles O21: each hypothesis is the check that DrawGlyph fails first, of CHAR's glyph and of the string's character m. -/
theorem charReportsItsFirstFailingCheck : Obligations.CharReportsItsFirstFailingCheck := by
  constructor
  · intro s x y code size fg bg cols rows stride _ hx hy
    refine ⟨fun hsize => ?_, fun hsize hcode => ?_, fun hsize hlow hhigh hcols hrows hstride =>
      ⟨fun hheader => ?_, fun hcols' hrows' hstride' hwindow => ?_⟩⟩
    · exact char_refused hx hy (.size hsize)
    · exact char_refused hx hy (.code hsize hcode)
    · exact char_refused hx hy (.header hsize hlow hhigh ⟨hcols, hrows, hstride⟩ hheader)
    · exact char_refused hx hy (.window hsize hlow hhigh ⟨hcols, hrows, hstride⟩ hcols' hrows' hstride'
        (by simp only [charGlyph]; omega))
  · intro s x y m size fg bg ch glyph cols rows stride fs reads hb hidle hx hy hchars hread hcol hne hfs hreads
    subst hfs hreads
    have hdrawn (k : Nat) (hk : k < m) : CharDrawn s x y size fg bg k (ch k) (glyph k) := by
      obtain ⟨hne, hdone, hglyph⟩ := hchars k hk
      have hmul := Nat.mul_le_mul_right (pitchColumns size) hk.le
      exact ⟨(Nat.add_le_add_left hmul y).trans hcol, hne, hread k hk.le, hdone, hglyph⟩
    have hrefused {e : GfxError} {as : List Word} (h : GlyphRefused s (stringGlyph x y size fg bg m (ch m)) e as) :=
      string_refused hb hidle hx hdrawn hcol (hread m le_rfl) hne h
    refine ⟨fun hsize => ?_, fun hsize hcode => ?_, fun hsize hlow hhigh hcols hrows hstride =>
      ⟨fun hheader => ?_, fun hcols' hrows' hstride' hwindow => ?_⟩⟩
    · have hend := hrefused (.size hsize)
      rwa [List.append_nil] at hend
    · have hend := hrefused (.code hsize hcode)
      rwa [List.append_nil] at hend
    · exact hrefused (.header hsize hlow hhigh ⟨hcols, hrows, hstride⟩ hheader)
    · exact hrefused (.window hsize hlow hhigh ⟨hcols, hrows, hstride⟩ hcols' hrows' hstride'
        (by simp only [stringGlyph, pitchColumns]; omega))

end Sys2Proof.Proofs
end


section
/-! The reset input (70_reset_and_hazards.md R260 to R263): the reset column of R21 read through the window, the block
at rest right after reset, and the invariant there. -/

namespace Sys2Proof.Proofs

open Sys2Proof.Machine Sys2Proof.Safety

/-! ### The window right after reset (R21, R44) -/

/-- R21's table read both ways: the offset at which a register is found is the one listed for it. -/
theorem regAt_eq_some_iff {off : BitVec 8} {r : Reg} : regAt off = some r ↔ off = regOffset r := by
  constructor
  · intro h
    unfold regAt at h
    split at h
    -- the last row is the reserved offsets, which hold no register
    case h_21 => exact absurd h (Option.some_ne_none r).symm
    all_goals
      cases h
      exact BitVec.eq_of_toNat_eq ‹_›
  · rintro rfl
    cases r <;> rfl

/-- R21's reset column: GFX_OPC, LINK_CTRL and LINK_STATUS are all that do not reset to 0. -/
theorem readWindow_reset (off : BitVec 8) : readWindow off State.reset =
    if off = 0x1C then 0x005C1575 else if off = 0x20 then 0x0000FF01 else if off = 0x24 then 0x00000002 else 0 := by
  cases hreg : regAt off with
  | none =>
    have hne (r : Reg) : off ≠ regOffset r := fun h => Option.some_ne_none r ((regAt_eq_some_iff.2 h).symm.trans hreg)
    have hopc : off ≠ 0x1C := hne .gfxOpc
    have hctrl : off ≠ 0x20 := hne .linkCtrl
    have hstatus : off ≠ 0x24 := hne .linkStatus
    rw [readWindow_of_reserved hreg, if_neg hopc, if_neg hctrl, if_neg hstatus]
  | some r =>
    obtain rfl := regAt_eq_some_iff.1 hreg
    rw [readWindow_regOffset]
    cases r <;> rfl

/-! ### The block at rest (R260, R263) -/

theorem gfxBusy_reset : gfxBusy State.reset = false := gfxBusy_idle rfl

theorem audState_reset_ne_streaming : State.reset.audState ≠ .streaming := AudState.noConfusion

theorem timerRunning_reset : timerRunning State.reset = false :=
  Bool.eq_false_iff.2 fun h => audState_reset_ne_streaming ((timerRunning_eq_true_iff _).1 h)

theorem linkIdle_reset : LinkIdle State.reset := ⟨rfl, rfl, rfl, rfl⟩

/-- Settles O2: the link is at rest, no command runs and no stream does, so what R41, R49, R80 and R245 say of a running
one asks nothing; DACEN is 0 with the engine Idle. -/
theorem resetMeetsTheInvariant : Obligations.ResetMeetsTheInvariant := by
  refine ⟨reset_mem_wf, linkIdle_reset, fun hbusy => ?latched, fun _ => ⟨rfl, rfl, rfl⟩, fun hstream => ?bounded,
    fun hstream => ?sound, ?dac⟩
  case latched => exact absurd (gfxBusy_reset.symm.trans hbusy) Bool.false_ne_true
  case bounded => exact absurd hstream audState_reset_ne_streaming
  case sound => exact absurd hstream audState_reset_ne_streaming
  case dac => exact iff_of_false Bool.false_ne_true fun hne => hne rfl

/-! ### The step of the reset input (R260, R262) -/

/-- The reset input's turn: what `resetBlock` keeps is taken from the state with the turn used (log 13). -/
theorem step_of_reset {s : State} {turns : List Turn} (h : s.sched = .reset :: turns) :
    step s = .next { State.reset with
      mem := s.mem, platform := s.platform, host := s.host, hostReads := s.hostReads, sched := turns,
      turn := s.turn + 1 } := by
  rw [step_of_sched h, turnStep, resetBlock]

/-- Settles O1: the reset column offset by offset, the reset input's step, and the block at rest. -/
theorem resetInputRestoresTheBlock : Obligations.ResetInputRestoresTheBlock :=
  ⟨readWindow_reset, fun _ _ hsched =>
    ⟨step_of_reset hsched, gfxBusy_reset, rfl, rfl, timerRunning_reset, rfl, rfl, rfl⟩⟩

end Sys2Proof.Proofs
end
